-- ==== Sys2Proof/Word.lean ====
section
/-! DEFINITION. The words of the machine: the byte, the 16-bit and 32-bit quantities, the 32-byte chunk and the 20-bit request word (spec 00 R6, R9; 20 R40; 30 R70). -/

namespace Sys2Proof

/-- A byte: 8 bits, unsigned (00 R9). -/
abbrev Byte := BitVec 8

/-- A 16-bit quantity: the result `res`, the operand `arg`, L, I and CAP (00 R6, 10 R23). -/
abbrev Half := BitVec 16

/-- A 32-bit quantity: the millisecond timebase `now` and T0 (NOW_W = 32, 00 R6). -/
abbrev Millis := BitVec 32

/-- One chunk: exactly 32 bytes, index 0 the indicator, 1 to 31 the payload (20 R41, 30 R60). -/
abbrev Chunk := Vector Byte 32

/-- The request word on the `req` port (REQ_W = 20, 30 R70). -/
abbrev RequestWord := BitVec 20

/-- The chunk of 32 zero bytes. -/
def zeroChunk : Chunk := Vector.replicate 32 0

end Sys2Proof
end

