-- ==== Sys2Proof/Config.lean ====
section
/-! DEFINITION. The implementation parameters of spec 00 R6, and the free value the spec leaves open. -/

namespace Sys2Proof

/-- The parameters of 00 R6 that are open or have a default. CHUNK_SIZE = 32, PAYLOAD_MAX = 31 and
REPLY_FLAG = 0x80 are fixed by the spec and stand in the rules that use them; NOW_W, RESULT_W and REQ_W
are the widths of `Millis`, `Half` and `RequestWord`. The constraints of 00 R7 are `Config.valid`. -/
structure Config where
  /-- IND_CONTINUES: more chunks of the message follow (30 R61). -/
  indContinues : Byte
  /-- IND_FINISHED: the last chunk of the message (30 R61). -/
  indFinished : Byte
  /-- IND_INVALID: the sentinel that invalidates a drained chunk (92 D8). -/
  indInvalid : Byte
  /-- START_CMD: the start marker of a logical message (30 R63). -/
  startCmd : Byte
  /-- END_CMD: the end marker of a logical message (30 R63). -/
  endCmd : Byte
  /-- RX_BUSY (30 R69). -/
  rxBusy : BitVec 4
  /-- RX_READY (30 R69). -/
  rxReady : BitVec 4
  /-- TX_NODATA (30 R69). -/
  txNodata : BitVec 4
  /-- TX_READY (30 R69). -/
  txReady : BitVec 4
  /-- TX_PREPARING (30 R69). -/
  txPreparing : BitVec 4
  /-- STATUS_WORD_W: the width of the published status word (10 R13). -/
  statusWordW : Nat
  /-- STATUS_SHIFT: the place of the packed byte inside the status word (10 R13). -/
  statusShift : Nat
  /-- REF_W: the width of the chunk reference (10 R16). -/
  refW : Nat
  /-- RX_TIMEOUT_MS: the bound of the receive continuation wait (60 R172). -/
  rxTimeoutMs : Millis
  /-- TX_TIMEOUT_MS: the bound of the transmit acknowledgement wait (60 R172). -/
  txTimeoutMs : Millis
  /-- P16_BIG_ENDIAN: the byte order of a 16-bit parameter's value (41 R118). -/
  p16BigEndian : Bool
deriving DecidableEq, Repr

/-- The defaults of the table of 00 R6. DESIGN CHOICE, unsafe where a claim leans on one of these numbers:
the spec marks most of them as open and its own or its author's recollection (log 6). -/
def Config.default : Config where
  indContinues := 0x01
  indFinished := 0x00
  indInvalid := 0xFF
  startCmd := 0xE0
  endCmd := 0xEE
  rxBusy := 0x0
  rxReady := 0x1
  txNodata := 0x0
  txReady := 0x1
  txPreparing := 0x2
  statusWordW := 32
  statusShift := 0
  refW := 32
  rxTimeoutMs := 250
  txTimeoutMs := 1000
  p16BigEndian := true

/-- The byte the block finds on `pin` where the caller supplied fewer data bytes than the `len` of its WRP
or WRP16. A free value: the spec says `len` data bytes are on `pin` (30 R71) and nothing of fewer. DESIGN
CHOICE, safe (log 12). It is applied to the counter `freeCount` of State. -/
opaque Config.unsuppliedByte : Nat → Byte

end Sys2Proof
end

