-- ==== Sys2Proof/Syntax.lean ====
section
/-! DEFINITION. The operations of the block, one constructor per row of spec/opcode_table.json (30 R72), operands as 30 R71 assembles them. -/

namespace Sys2Proof

/-- The operations (30 R72). The operands are those of 30 R71; bits of `arg` an operation does not use are
no part of it. -/
inductive Instr where
  /-- `op` 0x0, reserved (30 R73). -/
  | reserved0
  /-- SETRX s: set the receive state (40 R91). -/
  | setrx (s : BitVec 4)
  /-- SETTX s: set the transmit state (40 R92). -/
  | settx (s : BitVec 4)
  /-- RXACC: accept the first chunk of a message (41 R101). -/
  | rxacc
  /-- RDB: read the next byte of the message (41 R102). -/
  | rdb
  /-- RXDONE: release the message and invite the next (41 R110). -/
  | rxdone
  /-- RDP cap: read a parameter into OUT (41 R116). -/
  | rdp (cap : Half)
  /-- RDP16: read a parameter of exactly two bytes (41 R118). -/
  | rdp16
  /-- RDS cap: read a parameter as a string (41 R120). -/
  | rds (cap : Half)
  /-- RSTART cmd, n: begin a reply (42 R131). -/
  | rstart (cmd n : Byte)
  /-- WRB d: append one byte to the reply (42 R132). -/
  | wrb (d : Byte)
  /-- WRP len: append a parameter with a 1-byte length (42 R136). -/
  | wrp (len : Byte)
  /-- WRP16 len: append a parameter with a 2-byte length (42 R138). -/
  | wrp16 (len : Half)
  /-- REND: end the reply (42 R140). -/
  | rend
  /-- FLUSH ind: send the bytes now in TXBUF (42 R134). -/
  | flush (ind : Byte)
  /-- IMASK m: suppress (1) or allow (0) notifications (40 R95). -/
  | imask (m : BitVec 1)
deriving DecidableEq, Repr

end Sys2Proof
end

