-- ==== Sys2Proof/WellFormed.lean ====
section
/-! DEFINITION. Which operations, configurations and supplies of data bytes are well formed (spec 00 R7, 30 R71). -/

namespace Sys2Proof

/-- Every operation is well formed: the types of the operands hold exactly the values 30 R71 gives them
(a reserved status code is stored as it is, 40 R97; any indicator byte is sent as it is, 30 R75). -/
def Instr.wellFormed : Instr → Bool
  | .reserved0 => true
  | .setrx _ => true
  | .settx _ => true
  | .rxacc => true
  | .rdb => true
  | .rxdone => true
  | .rdp _ => true
  | .rdp16 => true
  | .rds _ => true
  | .rstart _ _ => true
  | .wrb _ => true
  | .wrp _ => true
  | .wrp16 _ => true
  | .rend => true
  | .flush _ => true
  | .imask _ => true

/-- How many data bytes the operation takes from `pin` (30 R71). -/
def Instr.dataBytes : Instr → Nat
  | .reserved0 => 0
  | .setrx _ => 0
  | .settx _ => 0
  | .rxacc => 0
  | .rdb => 0
  | .rxdone => 0
  | .rdp _ => 0
  | .rdp16 => 0
  | .rds _ => 0
  | .rstart _ _ => 0
  | .wrb _ => 0
  | .wrp len => len.toNat
  | .wrp16 len => len.toNat
  | .rend => 0
  | .flush _ => 0
  | .imask _ => 0

/-- The caller supplies every data byte the operation takes: IN[0 .. len-1] (30 R71). -/
def Instr.suppliedBy (i : Instr) (pin : List Byte) : Bool :=
  decide (i.dataBytes ≤ pin.length)

/-- The two status codes named by 30 R69 for the receive state. -/
def Config.namesRx (c : Config) (s : BitVec 4) : Bool :=
  s == c.rxBusy || s == c.rxReady

/-- The three status codes named by 30 R69 for the transmit state. -/
def Config.namesTx (c : Config) (s : BitVec 4) : Bool :=
  s == c.txNodata || s == c.txReady || s == c.txPreparing

/-- The indicator bytes and the sentinel are three different values (00 R7). -/
def Config.indicatorsDiffer (c : Config) : Bool :=
  c.indContinues != c.indFinished && c.indContinues != c.indInvalid && c.indFinished != c.indInvalid

/-- The codes of each status field differ among themselves (00 R7). -/
def Config.codesDiffer (c : Config) : Bool :=
  c.rxBusy != c.rxReady && c.txNodata != c.txPreparing && c.txNodata != c.txReady &&
    c.txPreparing != c.txReady

/-- The packed byte fits the status word (00 R7). -/
def Config.statusFits (c : Config) : Bool :=
  decide (c.statusShift + 8 ≤ c.statusWordW)

/-- Both timeouts are below 2^31 (00 R7). -/
def Config.timeoutsSmall (c : Config) : Bool :=
  decide (c.rxTimeoutMs.toNat < 2 ^ 31) && decide (c.txTimeoutMs.toNat < 2 ^ 31)

/-- The constraints of 00 R7. That every status code fits 4 bits is in the types. -/
def Config.valid (c : Config) : Bool :=
  c.indicatorsDiffer && c.codesDiffer && c.statusFits && c.timeoutsSmall

end Sys2Proof
end

