-- ==== Sys2Proof/Decode.lean ====
section
/-! DEFINITION. The request decoder and the encoder (spec 30 R70 to R73). -/

namespace Sys2Proof

/-- Why a number is no request. -/
inductive DecodeReject where
  /-- A bit above bit 19 is set: the `req` port has 20 bits (30 R70). Raised by `decodeNat`; safe. -/
  | bitsAboveRequestWord
deriving DecidableEq, Repr

/-- The operation code, bits 19:16 (30 R70). -/
def opField (w : RequestWord) : BitVec 4 := w.extractLsb' 16 4

/-- The operand field `arg`, bits 15:0 (30 R70). -/
def argField (w : RequestWord) : Half := w.extractLsb' 0 16

/-- `arg[3:0]`: the status code of SETRX and SETTX (30 R71). -/
def argCode (arg : Half) : BitVec 4 := arg.extractLsb' 0 4

/-- `arg[0]`: the mask bit of IMASK (30 R71). -/
def argMask (arg : Half) : BitVec 1 := arg.extractLsb' 0 1

/-- `arg[7:0]`: the byte operand of RSTART (n), WRB, WRP and FLUSH (30 R71). -/
def argLow (arg : Half) : Byte := arg.extractLsb' 0 8

/-- `arg[15:8]`: the command operand of RSTART (30 R71). -/
def argHigh (arg : Half) : Byte := arg.extractLsb' 8 8

/-- The operation `op` with the operand field `arg` (30 R71, R72). -/
def decodeFields (op : BitVec 4) (arg : Half) : Instr :=
  match op.toNat with
  | 0x0 => .reserved0
  | 0x1 => .setrx (argCode arg)
  | 0x2 => .settx (argCode arg)
  | 0x3 => .rxacc
  | 0x4 => .rdb
  | 0x5 => .rxdone
  | 0x6 => .rdp arg
  | 0x7 => .rdp16
  | 0x8 => .rds arg
  | 0x9 => .rstart (argHigh arg) (argLow arg)
  | 0xA => .wrb (argLow arg)
  | 0xB => .wrp (argLow arg)
  | 0xC => .wrp16 arg
  | 0xD => .rend
  | 0xE => .flush (argLow arg)
  | _ => .imask (argMask arg)

/-- The operation of a request word: total, since every one of the 16 codes is in the map (30 R72, R73). -/
def decode (w : RequestWord) : Instr := decodeFields (opField w) (argField w)

/-- The operation of a number read as a request word; a bit that the port does not have is rejected (log 24). -/
def decodeNat (n : Nat) : Except DecodeReject Instr :=
  if n < 2 ^ 20 then .ok (decode (BitVec.ofNat 20 n)) else .error .bitsAboveRequestWord

/-- The host's reading of a row of the opcode table: its bits are those of the request word. -/
def decodeTableWord (_nbits w : Nat) : Option Instr :=
  match decodeNat w with
  | .ok i => some i
  | .error _ => none

/-- The operation code of an operation (30 R72). -/
def opcode : Instr → BitVec 4
  | .reserved0 => 0x0
  | .setrx _ => 0x1
  | .settx _ => 0x2
  | .rxacc => 0x3
  | .rdb => 0x4
  | .rxdone => 0x5
  | .rdp _ => 0x6
  | .rdp16 => 0x7
  | .rds _ => 0x8
  | .rstart _ _ => 0x9
  | .wrb _ => 0xA
  | .wrp _ => 0xB
  | .wrp16 _ => 0xC
  | .rend => 0xD
  | .flush _ => 0xE
  | .imask _ => 0xF

/-- The operand field of an operation, its unused bits 0 (30 R71). -/
def operandField : Instr → Half
  | .reserved0 => 0
  | .setrx s => s.setWidth 16
  | .settx s => s.setWidth 16
  | .rxacc => 0
  | .rdb => 0
  | .rxdone => 0
  | .rdp cap => cap
  | .rdp16 => 0
  | .rds cap => cap
  | .rstart cmd n => cmd ++ n
  | .wrb d => d.setWidth 16
  | .wrp len => len.setWidth 16
  | .wrp16 len => len
  | .rend => 0
  | .flush ind => ind.setWidth 16
  | .imask m => m.setWidth 16

/-- The request word of an operation (30 R70). -/
def encode (i : Instr) : RequestWord := opcode i ++ operandField i

/-- The bits of `arg` that an operation code uses (30 R71). -/
def usedBits (op : BitVec 4) : Half :=
  match op.toNat with
  | 0x1 => 0x000F
  | 0x2 => 0x000F
  | 0x6 => 0xFFFF
  | 0x8 => 0xFFFF
  | 0x9 => 0xFFFF
  | 0xA => 0x00FF
  | 0xB => 0x00FF
  | 0xC => 0xFFFF
  | 0xE => 0x00FF
  | 0xF => 0x0001
  | _ => 0x0000

end Sys2Proof
end

