-- ==== Sys2Proof/Machine/State.lean ====
section
/-! DEFINITION. The state of the machine, as spec 10 lists it, with the environment's state the rules touch, and the reset state (10 R26, 70 R200). -/

namespace Sys2Proof.Machine

open Sys2Proof

/-- Why the machine stops with a fault. -/
inductive Fault where
  /-- An access to an index that a 32-byte buffer does not have ("Index 32 does not exist", 20 R41). Raised
  by RDB's step B9 with RXPOS above 31 and by WRB's step W2 with TXPOS = 31, which no run of the rules
  reaches (10 R27, log 17). Safe. -/
  | noSuchByte
deriving DecidableEq, Repr

/-- Why an instruction is refused. -/
inductive Refusal where
  /-- The instruction has no meaning in the model. Raised by no arm of `exec`: every instruction has one. Safe. -/
  | notModelled (mnemonic : String)
deriving DecidableEq, Repr

/-- The ghost labels of the failures (60 R166). -/
inductive Cause where
  /-- RXACC found no pending chunk (step A1). -/
  | noChunk
  /-- RDB stood at the boundary of a chunk not tagged IND_CONTINUES (step B2). -/
  | noContinuation
  /-- RDB waited RX_TIMEOUT_MS for the continuation (step B7). -/
  | rxTimeout
  /-- Byte 0 of the copied chunk is neither indicator (steps A3 and B8v). -/
  | badIndicator
  /-- RDP16 found a length byte that is not 2 (step Q2). -/
  | badLength
  /-- The reserved operation code (30 R73). -/
  | refused
deriving DecidableEq, Repr

/-- FG_STEP: the labels of the steps (10 R23). A label carries the operands its step still needs. Labels
ending in `r` are the rest of a line after the primitive it calls has returned (log 16). -/
inductive Label where
  /-- SETRX S1 (40 R91). -/
  | setrxS1 (s : BitVec 4)
  /-- SETTX S1 (40 R92). -/
  | settxS1 (s : BitVec 4)
  /-- IMASK S1 (40 R95). -/
  | imaskS1 (m : BitVec 1)
  /-- RXACC A1 to A4 (41 R101). -/
  | a1 | a2 | a3 | a4
  /-- RDB B1 to B9 (41 R102). -/
  | b1 | b2 | b3 | b4 | b5 | b6 | b7 | b8 | b8v | b8r | b9
  /-- RXDONE D1 to D3 (41 R110). -/
  | d1 | d2 | d3
  /-- RDP P1: call RDB for the length byte (41 R116). -/
  | p1 (cap : Half)
  /-- RDP P1 after RDB: take L, I and CAP. -/
  | p1r (cap : Half)
  /-- RDP P2: the loop test, and the call of RDB. -/
  | p2
  /-- RDP P2 after RDB: store the byte if it fits. -/
  | p2r
  /-- RDP P3 (41 R116). -/
  | p3
  /-- RDP16 Q1 to Q4 (41 R118), with the rests of Q3 and Q4. -/
  | q1 | q2 | q3 | q3r | q4 | q4r
  /-- RDS T2 and T3 (41 R120); T1 is P1 and P2. -/
  | t2 | t3
  /-- RSTART S1 to S5 (42 R131). -/
  | s1 | s2 | s3
  | s4 (cmd : Byte)
  | s5 (n : Byte)
  /-- WRB W1 and W2 (42 R132). -/
  | w1 (d : Byte)
  | w2 (d : Byte)
  /-- FLUSH F1 to F5 (42 R134). -/
  | f1 (ind : Byte)
  | f2 | f3 | f4 | f5
  /-- WRP U1 (42 R136). -/
  | u1 (len : Byte)
  /-- WRP16 V1 and V2 (42 R138). -/
  | v1 (len : Half)
  | v2 (len : Half)
  /-- WRP U2 and WRP16 V3: the loop over the data bytes, its start, and what follows the WRB of a byte. -/
  | dataStart (len : Half)
  | dataLoop (len : Half)
  /-- WRP U3 and WRP16 V4. -/
  | dataDone
  /-- REND E1 and E2 (42 R140). -/
  | e1 | e2
deriving DecidableEq, Repr

/-- FG_OP and FG_STEP (10 R23): the sequencer is idle, or it runs the operation `op`, its next step is
`next`, and the labels in `back` are where the primitives now running return to, innermost first. `r` is
the value the last primitive returned, the `r` of the pseudocode of 41 R116 and R118. -/
inductive Foreground where
  | idle
  | running (op : Instr) (r : Half) (next : Label) (back : List Label)
deriving DecidableEq, Repr

/-- One move of the environment (60 R164, 70 R200). -/
inductive Move where
  /-- `ev_rx`: the adapter delivers a chunk with a reference (60 R161). Its length is always 32, the chunk's
  type (60 R176, log 23). -/
  | rx (chunk : Chunk) (ref : Nat)
  /-- `ev_tx`: the peer has consumed the outbound chunk (60 R162). -/
  | tx
  /-- `now += ms` (60 R172). -/
  | tick (ms : Millis)
  /-- `rst` is asserted (70 R200). -/
  | rst
deriving DecidableEq, Repr

/-- What the environment does in one turn, in this order. Without a pause the block's next atomic step
follows. With a pause none does: the turn is a transition by itself, after which the machine is looked at, as
00 R5 and 60 R164 have it for every event (logs 7, 10). -/
structure Turn where
  moves : List Move
  pause : Bool
deriving DecidableEq, Repr

/-- A request of the caller: the idle turns that pass before it is presented, the word on `req`, and the
data bytes the caller supplies on `pin`, IN[0], IN[1], … (00 R8, 30 R70). -/
structure Request where
  after : Nat
  word : RequestWord
  pin : List Byte
deriving DecidableEq, Repr

/-- A sparse byte space: addresses strictly rising, an unlisted address holds no byte the block has
written (log 13). -/
abbrev Memory := List Host.Cell

/-- The one canonical form of a sparse space: addresses strictly rising. Since an unlisted address reads as
no value, no entry can equal what an unlisted address reads as. -/
def Memory.wf : Memory → Bool
  | [] => true
  | [_] => true
  | (a, _) :: (b, v) :: rest => decide (a < b) && Memory.wf ((b, v) :: rest)

/-- The state of the machine. -/
structure State where
  /-- The parameters (10 R25). No step changes them. -/
  cfg : Config
  /-- RXSTATE (10 R11). -/
  rxstate : BitVec 4
  /-- TXSTATE (10 R11). -/
  txstate : BitVec 4
  /-- DATA_RECEIVED (10 R14). -/
  dataReceived : Bool
  /-- DATA_SENT (10 R15). -/
  dataSent : Bool
  /-- RXREF (10 R16), below 2^REF_W. -/
  rxref : Nat
  /-- RXBUF (10 R17). -/
  rxbuf : Chunk
  /-- RXPOS (10 R18). -/
  rxpos : BitVec 6
  /-- TXBUF (10 R20). -/
  txbuf : Chunk
  /-- TXPOS (10 R21). -/
  txpos : BitVec 5
  /-- IRQ_OFF (10 R22). -/
  irqOff : Bool
  /-- FG_OP and FG_STEP (10 R23). -/
  fg : Foreground
  /-- T0 (10 R23). -/
  t0 : Millis
  /-- L (10 R23). -/
  l : Half
  /-- I (10 R23). -/
  i : Half
  /-- CAP (10 R23). -/
  cap : Half
  /-- IND (10 R23). -/
  ind : Byte
  /-- The `res` port (30 R74). -/
  res : Half
  /-- XBUF, the adapter's (10 R24). -/
  xbuf : Chunk
  /-- TXOUT, the outbound chunk the adapter last accepted; its length is `tx_len` (10 R24). -/
  txout : List Byte
  /-- NOW, the millisecond timebase (60 R172). -/
  now : Millis
  /-- IN, the caller's source bytes on `pin` (20 R44). -/
  inBuf : List Byte
  /-- OUT, the caller's destination bytes written on `pout` (20 R44). -/
  out : Memory
  /-- The model's own: the requests the caller has still to present (log 11). -/
  reqs : List Request
  /-- The model's own: the coming turns of the environment (log 7). -/
  env : List Turn
  /-- The model's own: notifications the adapter holds back while they are suppressed (60 R163, log 9). -/
  held : List Move
  /-- The model's own: how many free bytes have been used (log 12). -/
  freeCount : Nat
  /-- Ghost: why the operation that ended last failed (60 R166, log 18). -/
  cause : Option Cause
  /-- Ghost: how many acknowledgement timeouts have happened (60 R169, log 18). -/
  ackTimeouts : Nat
  /-- The history of the output event `tx_chunk`, oldest first (00 R8, log 18). -/
  txLog : List (List Byte)
  /-- Ghost: a chunk has been delivered and none copied since (41 R124, RX_AVAIL; log 18). -/
  uncopied : Bool
  /-- Ghost: a read has failed in a way that leads to RX_DEAD, and no chunk has been accepted and no message
  released since (41 R124, RX_DEAD; logs 18, 22). -/
  readFailed : Bool
deriving DecidableEq, Repr

/-- The machine right after reset under a configuration (10 R26, 70 R200, R201). DESIGN CHOICE, unsafe: the
values the spec leaves unspecified (RXREF, RXBUF[1..31], TXBUF, T0, L, I, CAP, IND, `res`, and XBUF, TXOUT,
NOW of the environment) are zero or empty here (logs 1 to 5). -/
def State.ofConfig (c : Config) : State where
  cfg := c
  rxstate := c.rxReady
  txstate := c.txNodata
  dataReceived := false
  dataSent := true
  rxref := 0
  rxbuf := zeroChunk.set 0 c.indInvalid
  rxpos := 32
  txbuf := zeroChunk
  txpos := 0
  irqOff := false
  fg := .idle
  t0 := 0
  l := 0
  i := 0
  cap := 0
  ind := 0
  res := 0
  xbuf := zeroChunk
  txout := []
  now := 0
  inBuf := []
  out := []
  reqs := []
  env := []
  held := []
  freeCount := 0
  cause := none
  ackTimeouts := 0
  txLog := []
  uncopied := false
  readFailed := false

/-- The machine right after reset, its parameters at the defaults of 00 R6 (log 6). -/
def State.reset : State := State.ofConfig Config.default

end Sys2Proof.Machine
end

