-- ==== Sys2Proof/Machine/Flags.lean ====
section
/-! DEFINITION. The computed quantities of the rules: results, indicator tests, elapsed time, the packed status (spec 10 R12, R13; 30 R64, R74, R79; 41 R116, R118; 60 R172). -/

namespace Sys2Proof.Machine

open Sys2Proof

/-- The result that stands for a byte: `zext_16(byte)` (30 R74). -/
def byteResult (b : Byte) : Half := b.setWidth 16

/-- The byte of a result, `r[7:0]` (41 R116). -/
def resultByte (r : Half) : Byte := r.setWidth 8

/-- Failure, -1 (30 R74). -/
def failResult : Half := 0xFFFF

/-- `min(L, CAP)`, unsigned (30 R79 f, 41 R116). -/
def storedCount (l cap : Half) : Half := if l.toNat ≤ cap.toNat then l else cap

/-- `(now - T0) mod 2^32 >= timeout`, unsigned (60 R172). -/
def expired (timeout now t0 : Millis) : Bool := decide (timeout.toNat ≤ (now - t0).toNat)

/-- Byte 0 of a chunk is one of the two indicators (30 R61, R75 a). -/
def isIndicator (c : Config) (b : Byte) : Bool := b == c.indContinues || b == c.indFinished

/-- The command byte of a reply, `cmd | 0x80` (30 R64, R79 d). -/
def replyCommand (cmd : Byte) : Byte := cmd ||| 0x80

/-- The number that two parameter bytes in wire order stand for (41 R118, parameter P16_BIG_ENDIAN). -/
def param16Value (c : Config) (b0 b1 : Byte) : Half := if c.p16BigEndian then b0 ++ b1 else b1 ++ b0

/-- The packed status byte, the receive state in bits 7:4 and the transmit state in bits 3:0 (10 R12). -/
def State.statusByte (s : State) : Byte := s.rxstate ++ s.txstate

/-- The `status` port (10 R13). -/
def State.statusWord (s : State) : BitVec s.cfg.statusWordW :=
  (s.statusByte.setWidth s.cfg.statusWordW) <<< s.cfg.statusShift

/-- The chunk the peer reads: TXOUT padded with zero bytes to 32 (60 R180). -/
def State.peerChunk (s : State) : List Byte := s.txout ++ List.replicate (32 - s.txout.length) 0

end Sys2Proof.Machine
end

