-- ==== Sys2Proof/Machine/Operands.lean ====
section
/-! DEFINITION. The operand forms of the operations: the data bytes on `pin` and the two bytes of a 16-bit length (spec 20 R44, 30 R71, R79 e). -/

namespace Sys2Proof.Machine

open Sys2Proof

/-- `len[15:8]`, the first byte of the 2-byte length prefix (42 R138). -/
def lenHigh (len : Half) : Byte := len.extractLsb' 8 8

/-- `len[7:0]`, the second byte of the 2-byte length prefix (42 R138). -/
def lenLow (len : Half) : Byte := len.extractLsb' 0 8

/-- The 1-byte length of WRP as the loop counts it (42 R136). -/
def lenOfByte (len : Byte) : Half := len.setWidth 16

/-- IN[I] (20 R44). Where the caller supplied fewer bytes, a free value (DESIGN CHOICE, safe: log 12). -/
def State.dataByte (s : State) : Byte :=
  match s.inBuf[s.i.toNat]? with
  | some b => b
  | none => Config.unsuppliedByte s.freeCount

/-- How many free bytes have been used after IN[I] is read. -/
def State.freeCountAfter (s : State) : Nat :=
  match s.inBuf[s.i.toNat]? with
  | some _ => s.freeCount
  | none => s.freeCount + 1

end Sys2Proof.Machine
end

