-- ==== Sys2Proof/Machine/Ops.lean ====
section
/-! DEFINITION. The named operations over the buffers and registers, the end and the failure of an operation, the two notifications, reset, and one turn of the environment (spec 20, 40 R96, 42 R146, 60 R161 to R167, 70 R200). -/

namespace Sys2Proof.Machine

open Sys2Proof

/-! ## OUT, a sparse space -/

/-- The byte at an address, none where the block has written nothing. -/
def Memory.read : Memory → Nat → Option Byte
  | [], _ => none
  | (b, v) :: rest, a => if a = b then some v else Memory.read rest a

/-- Write one byte, keeping the addresses rising. -/
def Memory.write : Memory → Nat → Byte → Memory
  | [], a, x => [(a, x)]
  | (b, v) :: rest, a, x =>
    if a < b then (a, x) :: (b, v) :: rest
    else if a = b then (a, x) :: rest
    else (b, v) :: Memory.write rest a x

/-- `OUT[k] <- b` (20 R44). -/
def State.storeOut (s : State) (k : Nat) (b : Byte) : State := { s with out := s.out.write k b }

/-- The five byte spaces (20 R40). -/
inductive Space where
  | rxbuf | txbuf | xbuf | out | inBuf
deriving DecidableEq, Repr

/-- One byte of a space, none where the space has no byte at the index (20 R40, R41). -/
def State.byteAt (s : State) : Space → Nat → Option Byte
  | .rxbuf, k => s.rxbuf[k]?
  | .txbuf, k => s.txbuf[k]?
  | .xbuf, k => s.xbuf[k]?
  | .out, k => s.out.read k
  | .inBuf, k => s.inBuf[k]?

/-! ## The sequencer -/

/-- FG_OP is idle (10 R23). -/
def State.idle (s : State) : Bool :=
  match s.fg with
  | .idle => true
  | .running _ _ _ _ => false

/-- `step <- L` (00 R9). -/
def State.goTo (s : State) (op : Instr) (next : Label) (back : List Label) : State :=
  { s with fg := .running op 0 next back }

/-- `done(v)` of a primitive or of the whole operation: a primitive returns `v` to the label that called
it; with nothing to return to, the operation ends with `res <- v` and the sequencer is idle (00 R9, 30 R74). -/
def State.finish (s : State) (op : Instr) (v : Half) : List Label → State
  | [] => { s with fg := .idle, res := v, cause := none }
  | next :: back => { s with fg := .running op v next back }

/-- `fail(cause)`: the whole operation ends at once with `res <- -1`, whatever called the failing
primitive (00 R9, 41 R122, 60 R166, R167). Nothing else is written. -/
def State.fail (s : State) (c : Cause) : State :=
  { s with fg := .idle, res := failResult, cause := some c }

/-- A failure that leads to RX_DEAD, with its ghost mark (41 R124; logs 18, 22): the chunk copied by RXACC or
RDB is not tagged, or the continuation did not come in time. -/
def State.failRead (s : State) (c : Cause) : State := { s with readFailed := true }.fail c

/-- `WRB(IN[I])` inside the loop of U2 and V3, after which the loop goes on (42 R136, R138). -/
def State.appendDatum (s : State) (op : Instr) (len : Half) (back : List Label) : State :=
  { s with freeCount := s.freeCountAfter }.goTo op (.w1 s.dataByte) (.dataLoop len :: back)

/-! ## The wide accesses -/

/-- `critical { RXBUF[0..31] <- XBUF[0..31] }` (20 R46). -/
def State.copyChunk (s : State) : State := { s with rxbuf := s.xbuf, uncopied := false }

/-- `RXPOS <- 1` after a valid copy (41 R101 A4, R102 B8r): the chunk is accepted. -/
def State.acceptChunk (s : State) : State := { s with rxpos := 1, readFailed := false }

/-- `RXBUF[0] <- IND_INVALID` (41 R102 B4, R110 D2). -/
def State.invalidate (s : State) : State := { s with rxbuf := s.rxbuf.set 0 s.cfg.indInvalid }

/-- Byte 0 of the working buffer is one of the two indicators. -/
def State.chunkTagged (s : State) : Bool := isIndicator s.cfg s.rxbuf[0]

/-- TXBUF with the indicator in byte 0 (42 R134 F4). -/
def State.taggedTxbuf (s : State) : Chunk := s.txbuf.set 0 s.ind

/-- The bytes handed off: TXBUF[0 .. TXPOS] with the indicator in place (42 R146). -/
def State.outboundBytes (s : State) : List Byte := s.taggedTxbuf.toList.take (s.txpos.toNat + 1)

/-- FLUSH's critical step F4 (42 R134, R146): the flag, the indicator, the hand-off and the transmit state
in one step. The adapter captures the bytes. -/
def State.handOff (s : State) : State :=
  { s with
    dataSent := false
    txbuf := s.taggedTxbuf
    txout := s.outboundBytes
    txLog := s.txLog ++ [s.outboundBytes]
    txstate := s.cfg.txReady }

/-- A poll that finds neither exit stays at its step (10 R23). When the schedule holds no further turn, only
the timebase runs, and the next poll finds the deadline reached (DESIGN CHOICE, unsafe where a claim leans on
the exact time at which a silent wait ends: log 8). -/
def State.stay (s : State) (timeout : Millis) : State :=
  if s.env.isEmpty then { s with now := s.t0 + timeout } else s

/-! ## Notifications: the block's interrupts -/

/-- `ev_rx`: the adapter's write of XBUF, then H1 to H3, as one step (60 R161). -/
def State.chunkReceived (s : State) (chunk : Chunk) (ref : Nat) : State :=
  { s with
    xbuf := chunk
    rxref := ref % 2 ^ s.cfg.refW
    rxstate := s.cfg.rxBusy
    dataReceived := true
    uncopied := true }

/-- `ev_tx`: G1 and G2, as one step (60 R162). -/
def State.chunkConsumed (s : State) : State :=
  { s with dataSent := true, txstate := s.cfg.txNodata }

/-- The reset (70 R200): every register of the block takes its value after reset; the configuration, the
environment's and the caller's state, and the ghost histories stay (log 20). -/
def State.applyReset (s : State) : State :=
  { State.ofConfig s.cfg with
    xbuf := s.xbuf
    txout := s.txout
    now := s.now
    inBuf := s.inBuf
    out := s.out
    reqs := s.reqs
    env := s.env
    held := s.held
    freeCount := s.freeCount
    ackTimeouts := s.ackTimeouts
    txLog := s.txLog }

/-- Taking a notification, or any other move of the environment. A notification that is suppressed happens
later, as a whole: the adapter holds it back (60 R163, log 9). Nothing is saved, and the sequencer goes on
where it was (60 R170). -/
def State.applyMove (s : State) (m : Move) : State :=
  match m with
  | .rx chunk ref =>
    if s.irqOff then { s with held := s.held ++ [.rx chunk ref] } else s.chunkReceived chunk ref
  | .tx => if s.irqOff then { s with held := s.held ++ [.tx] } else s.chunkConsumed
  | .tick ms => { s with now := s.now + ms }
  | .rst => s.applyReset

/-- The moves of the next turn. -/
def State.turnMoves (s : State) : List Move :=
  match s.env with
  | [] => []
  | t :: _ => t.moves

/-- Whether the next turn is a transition by itself. -/
def State.pauseDue (s : State) : Bool :=
  match s.env with
  | [] => false
  | t :: _ => t.pause

/-- One turn of the environment: what was held back comes first, then the turn's own moves (logs 7, 9). -/
def State.environment (s : State) : State :=
  (s.held ++ s.turnMoves).foldl State.applyMove { s with held := [], env := s.env.tail }

end Sys2Proof.Machine
end

