-- ==== Sys2Proof/Machine/ReceiveSteps.lean ====
section
/-! DEFINITION. The atomic steps of RXACC, RDB, RXDONE, RDP, RDP16 and RDS (spec 41 R101, R102, R110, R116, R118, R120). -/

namespace Sys2Proof.Machine

open Sys2Proof

/-! ## RXACC (41 R101) -/

def stepA1 (op : Instr) (back : List Label) (s : State) : State :=
  if s.dataReceived then s.goTo op .a2 back else s.fail .noChunk

def stepA2 (op : Instr) (back : List Label) (s : State) : State :=
  s.copyChunk.goTo op .a3 back

def stepA3 (op : Instr) (back : List Label) (s : State) : State :=
  if s.chunkTagged then s.goTo op .a4 back else { s with rxpos := 32 }.failRead .badIndicator

def stepA4 (op : Instr) (back : List Label) (s : State) : State :=
  s.acceptChunk.finish op 0 back

/-! ## RDB (41 R102) -/

def stepB1 (op : Instr) (back : List Label) (s : State) : State :=
  if s.rxpos.toNat < 32 then s.goTo op .b9 back else s.goTo op .b2 back

def stepB2 (op : Instr) (back : List Label) (s : State) : State :=
  if s.rxbuf[0] = s.cfg.indContinues then s.goTo op .b3 back else s.fail .noContinuation

def stepB3 (op : Instr) (back : List Label) (s : State) : State :=
  { s with dataReceived := false }.goTo op .b4 back

def stepB4 (op : Instr) (back : List Label) (s : State) : State :=
  s.invalidate.goTo op .b5 back

def stepB5 (op : Instr) (back : List Label) (s : State) : State :=
  { s with rxstate := s.cfg.rxReady }.goTo op .b6 back

def stepB6 (op : Instr) (back : List Label) (s : State) : State :=
  { s with t0 := s.now }.goTo op .b7 back

/-- One poll: the flag first, then the deadline (60 R172). -/
def stepB7 (op : Instr) (back : List Label) (s : State) : State :=
  if s.dataReceived then s.goTo op .b8 back
  else if expired s.cfg.rxTimeoutMs s.now s.t0 then s.failRead .rxTimeout
  else (s.stay s.cfg.rxTimeoutMs).goTo op .b7 back

def stepB8 (op : Instr) (back : List Label) (s : State) : State :=
  s.copyChunk.goTo op .b8v back

def stepB8v (op : Instr) (back : List Label) (s : State) : State :=
  if s.chunkTagged then s.goTo op .b8r back else s.failRead .badIndicator

def stepB8r (op : Instr) (back : List Label) (s : State) : State :=
  s.acceptChunk.goTo op .b9 back

/-- `v <- RXBUF[RXPOS] ; RXPOS <- RXPOS + 1 ; done(zext_16(v))`. Index 32 and above do not exist (20 R41). -/
def stepB9 (op : Instr) (back : List Label) (s : State) : Host.Outcome State Fault Refusal :=
  match s.rxbuf[s.rxpos.toNat]? with
  | some v => .next ({ s with rxpos := s.rxpos + 1 }.finish op (byteResult v) back)
  | none => .fault .noSuchByte

/-! ## RXDONE (41 R110) -/

def stepD1 (op : Instr) (back : List Label) (s : State) : State :=
  { s with dataReceived := false }.goTo op .d2 back

def stepD2 (op : Instr) (back : List Label) (s : State) : State :=
  { s.invalidate with rxpos := 32, readFailed := false }.goTo op .d3 back

def stepD3 (op : Instr) (back : List Label) (s : State) : State :=
  { s with rxstate := s.cfg.rxReady }.finish op 0 back

/-! ## RDP (41 R116), and the steps it shares with RDS -/

def stepP1 (op : Instr) (cap : Half) (back : List Label) (s : State) : State :=
  s.goTo op .b1 (.p1r cap :: back)

/-- `L <- r[7:0] ; I <- 0 ; CAP <- cap`. -/
def stepP1r (op : Instr) (r cap : Half) (back : List Label) (s : State) : State :=
  { s with l := byteResult (resultByte r), i := 0, cap := cap }.goTo op .p2 back

def stepP2 (op : Instr) (back : List Label) (s : State) : State :=
  if s.i.toNat < s.l.toNat then s.goTo op .b1 (.p2r :: back) else s.finish op 0 back

/-- OUT[I] takes the byte only when I is below CAP (20 R44, 41 R116). -/
def State.storeClamped (s : State) (b : Byte) : State :=
  if s.i.toNat < s.cap.toNat then s.storeOut s.i.toNat b else s

def stepP2r (op : Instr) (r : Half) (back : List Label) (s : State) : State :=
  { s.storeClamped (resultByte r) with i := s.i + 1 }.goTo op .p2 back

def stepP3 (op : Instr) (back : List Label) (s : State) : State :=
  s.finish op (storedCount s.l s.cap) back

/-! ## RDP16 (41 R118) -/

def stepQ1 (op : Instr) (back : List Label) (s : State) : State :=
  s.goTo op .b1 (.q2 :: back)

def stepQ2 (op : Instr) (r : Half) (back : List Label) (s : State) : State :=
  if r = 2 then s.goTo op .q3 back else s.fail .badLength

def stepQ3 (op : Instr) (back : List Label) (s : State) : State :=
  s.goTo op .b1 (.q3r :: back)

def stepQ3r (op : Instr) (r : Half) (back : List Label) (s : State) : State :=
  (s.storeOut 0 (resultByte r)).goTo op .q4 back

def stepQ4 (op : Instr) (back : List Label) (s : State) : State :=
  s.goTo op .b1 (.q4r :: back)

def stepQ4r (op : Instr) (r : Half) (back : List Label) (s : State) : State :=
  (s.storeOut 1 (resultByte r)).finish op 0 back

/-! ## RDS (41 R120) -/

/-- `OUT[min(L, CAP)] <- 0x00`. -/
def stepT2 (op : Instr) (back : List Label) (s : State) : State :=
  (s.storeOut (storedCount s.l s.cap).toNat 0).goTo op .t3 back

def stepT3 (op : Instr) (back : List Label) (s : State) : State :=
  s.finish op (storedCount s.l s.cap) back

end Sys2Proof.Machine
end

