-- ==== Sys2Proof/Machine/StatusSteps.lean ====
section
/-! DEFINITION. The atomic steps of SETRX, SETTX and IMASK (spec 40 R91, R92, R95). -/

namespace Sys2Proof.Machine

open Sys2Proof

/-- `RXSTATE <- s ; done(0)` (40 R91). -/
def stepSetrxS1 (op : Instr) (c : BitVec 4) (back : List Label) (s : State) : State :=
  { s with rxstate := c }.finish op 0 back

/-- `TXSTATE <- s ; done(0)` (40 R92). -/
def stepSettxS1 (op : Instr) (c : BitVec 4) (back : List Label) (s : State) : State :=
  { s with txstate := c }.finish op 0 back

/-- `IRQ_OFF <- m ; done(0)` (40 R95). -/
def stepImaskS1 (op : Instr) (m : BitVec 1) (back : List Label) (s : State) : State :=
  { s with irqOff := m == 1 }.finish op 0 back

end Sys2Proof.Machine
end

