-- ==== Sys2Proof/Machine/TransmitSteps.lean ====
section
/-! DEFINITION. The atomic steps of RSTART, WRB, FLUSH, WRP, WRP16 and REND (spec 42 R131, R132, R134, R136, R138, R140). -/

namespace Sys2Proof.Machine

open Sys2Proof

/-! ## RSTART (42 R131) -/

def stepS1 (op : Instr) (back : List Label) (s : State) : State :=
  { s with txstate := s.cfg.txPreparing }.goTo op .s2 back

def stepS2 (op : Instr) (back : List Label) (s : State) : State :=
  { s with txpos := 0 }.goTo op .s3 back

def stepS3 (op : Instr) (back : List Label) (s : State) : State :=
  s.goTo op (.w1 s.cfg.startCmd) back

def stepS4 (op : Instr) (cmd : Byte) (back : List Label) (s : State) : State :=
  s.goTo op (.w1 (replyCommand cmd)) back

/-- `WRB(n) ; done(0)`: the WRB is the last thing, so its own `done(0)` ends the operation. -/
def stepS5 (op : Instr) (n : Byte) (back : List Label) (s : State) : State :=
  s.goTo op (.w1 n) back

/-! ## WRB (42 R132) -/

def stepW1 (op : Instr) (d : Byte) (back : List Label) (s : State) : State :=
  if 31 ≤ s.txpos.toNat then s.goTo op (.f1 s.cfg.indContinues) (.w2 d :: back) else s.goTo op (.w2 d) back

/-- `TXBUF[1 + TXPOS] <- d ; TXPOS <- TXPOS + 1 ; done(0)`. Index 32 does not exist (20 R41). -/
def stepW2 (op : Instr) (d : Byte) (back : List Label) (s : State) : Host.Outcome State Fault Refusal :=
  if 1 + s.txpos.toNat < 32 then
    .next ({ s with
      txbuf := s.txbuf.setIfInBounds (1 + s.txpos.toNat) d, txpos := s.txpos + 1 }.finish op 0 back)
  else .fault .noSuchByte

/-! ## FLUSH (42 R134) -/

def stepF1 (op : Instr) (ind : Byte) (back : List Label) (s : State) : State :=
  if s.txpos = 0 then { s with ind := ind }.finish op 0 back else { s with ind := ind }.goTo op .f2 back

def stepF2 (op : Instr) (back : List Label) (s : State) : State :=
  { s with t0 := s.now }.goTo op .f3 back

/-- One poll: the flag first, then the deadline, which is no failure but the ghost event ACK_TIMEOUT
(42 R148, 60 R169, R172). -/
def stepF3 (op : Instr) (back : List Label) (s : State) : State :=
  if s.dataSent then s.goTo op .f4 back
  else if expired s.cfg.txTimeoutMs s.now s.t0 then
    { s with ackTimeouts := s.ackTimeouts + 1 }.goTo op .f4 back
  else (s.stay s.cfg.txTimeoutMs).goTo op .f3 back

def stepF4 (op : Instr) (back : List Label) (s : State) : State :=
  s.handOff.goTo op .f5 back

def stepF5 (op : Instr) (back : List Label) (s : State) : State :=
  { s with txpos := 0 }.finish op 0 back

/-! ## WRP (42 R136) and WRP16 (42 R138) -/

def stepU1 (op : Instr) (len : Byte) (back : List Label) (s : State) : State :=
  s.goTo op (.w1 len) back

def stepV1 (op : Instr) (len : Half) (back : List Label) (s : State) : State :=
  s.goTo op (.w1 (lenHigh len)) (.v2 len :: back)

def stepV2 (op : Instr) (len : Half) (back : List Label) (s : State) : State :=
  s.goTo op (.w1 (lenLow len)) back

/-- The loop of U2 and V3 starts at I = 0 with the WRB of IN[0]; with no data byte it ends at once. What I holds
after a loop of no turns is no rule's: it is 0 (DESIGN CHOICE, unsafe where a claim leans on it: log 25). -/
def stepDataStart (op : Instr) (len : Half) (back : List Label) (s : State) : State :=
  if 0 < len.toNat then { s with i := 0 }.appendDatum op len back else { s with i := 0 }.finish op 0 back

/-- After the WRB of IN[I]: count I and go on with the WRB of the next byte, or end after the last. I is k while
byte k is appended, and stays at len-1 after the last: the counter runs from 0 to len-1 and never reaches len
(30 R79 g). -/
def stepDataLoop (op : Instr) (len : Half) (back : List Label) (s : State) : State :=
  if s.i.toNat + 1 < len.toNat then { s with i := s.i + 1 }.appendDatum op len back else s.finish op 0 back

/-- U3 and V4: `done(0)`. -/
def stepDataDone (op : Instr) (back : List Label) (s : State) : State :=
  s.finish op 0 back

/-! ## REND (42 R140) -/

def stepE1 (op : Instr) (back : List Label) (s : State) : State :=
  s.goTo op (.w1 s.cfg.endCmd) (.e2 :: back)

/-- `FLUSH(IND_FINISHED) ; done(0)`: the flush is the last thing, so its own `done(0)` ends the operation. -/
def stepE2 (op : Instr) (back : List Label) (s : State) : State :=
  s.goTo op (.f1 s.cfg.indFinished) back

end Sys2Proof.Machine
end

