-- ==== Sys2Proof/Machine/Sequencer.lean ====
section
/-! DEFINITION. The foreground sequencer: one atomic step by its label, and a run of steps with the environment's turns between them (spec 10 R23, 20 R49, 60 R164). -/

namespace Sys2Proof.Machine

open Sys2Proof

/-- One atomic step of an operation in progress. -/
def State.atomic (s : State) (op : Instr) (r : Half) (next : Label) (back : List Label) :
    Host.Outcome State Fault Refusal :=
  match next with
  | .setrxS1 c => .next (stepSetrxS1 op c back s)
  | .settxS1 c => .next (stepSettxS1 op c back s)
  | .imaskS1 m => .next (stepImaskS1 op m back s)
  | .a1 => .next (stepA1 op back s)
  | .a2 => .next (stepA2 op back s)
  | .a3 => .next (stepA3 op back s)
  | .a4 => .next (stepA4 op back s)
  | .b1 => .next (stepB1 op back s)
  | .b2 => .next (stepB2 op back s)
  | .b3 => .next (stepB3 op back s)
  | .b4 => .next (stepB4 op back s)
  | .b5 => .next (stepB5 op back s)
  | .b6 => .next (stepB6 op back s)
  | .b7 => .next (stepB7 op back s)
  | .b8 => .next (stepB8 op back s)
  | .b8v => .next (stepB8v op back s)
  | .b8r => .next (stepB8r op back s)
  | .b9 => stepB9 op back s
  | .d1 => .next (stepD1 op back s)
  | .d2 => .next (stepD2 op back s)
  | .d3 => .next (stepD3 op back s)
  | .p1 cap => .next (stepP1 op cap back s)
  | .p1r cap => .next (stepP1r op r cap back s)
  | .p2 => .next (stepP2 op back s)
  | .p2r => .next (stepP2r op r back s)
  | .p3 => .next (stepP3 op back s)
  | .q1 => .next (stepQ1 op back s)
  | .q2 => .next (stepQ2 op r back s)
  | .q3 => .next (stepQ3 op back s)
  | .q3r => .next (stepQ3r op r back s)
  | .q4 => .next (stepQ4 op back s)
  | .q4r => .next (stepQ4r op r back s)
  | .t2 => .next (stepT2 op back s)
  | .t3 => .next (stepT3 op back s)
  | .s1 => .next (stepS1 op back s)
  | .s2 => .next (stepS2 op back s)
  | .s3 => .next (stepS3 op back s)
  | .s4 cmd => .next (stepS4 op cmd back s)
  | .s5 n => .next (stepS5 op n back s)
  | .w1 d => .next (stepW1 op d back s)
  | .w2 d => stepW2 op d back s
  | .f1 ind => .next (stepF1 op ind back s)
  | .f2 => .next (stepF2 op back s)
  | .f3 => .next (stepF3 op back s)
  | .f4 => .next (stepF4 op back s)
  | .f5 => .next (stepF5 op back s)
  | .u1 len => .next (stepU1 op len back s)
  | .v1 len => .next (stepV1 op len back s)
  | .v2 len => .next (stepV2 op len back s)
  | .dataStart len => .next (stepDataStart op len back s)
  | .dataLoop len => .next (stepDataLoop op len back s)
  | .dataDone => .next (stepDataDone op back s)
  | .e1 => .next (stepE1 op back s)
  | .e2 => .next (stepE2 op back s)

/-- The foreground's next atomic step; when it is idle, none is taken. -/
def State.foreground (s : State) : Host.Outcome State Fault Refusal :=
  match s.fg with
  | .idle => .next s
  | .running op r next back => s.atomic op r next back

/-- One transition of the machine with an operation in progress (00 R5, 60 R164): a turn of the environment,
which may be empty, and then the foreground's next atomic step; or, where the turn is a pause, the turn alone.
A reset in the turn leaves the sequencer idle, and no step is taken. -/
def State.advance (s : State) : Host.Outcome State Fault Refusal :=
  if s.pauseDue then .next s.environment else s.environment.foreground

/-- Transitions until the operation ends or a turn is a pause, at most so many (log 10). -/
def State.runOn : Nat → State → Host.Outcome State Fault Refusal
  | 0, s => .next s
  | n + 1, s =>
    match s.advance with
    | .next t => if s.pauseDue || t.idle then .next t else State.runOn n t
    | .fault f => .fault f
    | .refused r => .refused r

/-- A number of transitions that no operation can reach: the longest operation takes fewer than 2^18 steps
besides the polls that stay, and each of those uses up a turn of the schedule or the time to its deadline
(log 10). -/
def State.budget (s : State) : Nat := 1048576 + s.env.length

/-- Accept an operation whose first step is `first`, and run it. A request presented while an operation is
in progress is not accepted: nothing changes (30 R70, 93 U10, log 15). -/
def State.perform (s : State) (op : Instr) (first : Label) (back : List Label) :
    Host.Outcome State Fault Refusal :=
  match s.fg with
  | .idle => (s.goTo op first back).runOn s.budget
  | .running _ _ _ _ => .next s

end Sys2Proof.Machine
end

