-- ==== Sys2Proof/Machine/Receive.lean ====
section
/-! DEFINITION. The meanings of the receive operations (spec 41 R101, R102, R110, R116, R118, R120). -/

namespace Sys2Proof.Machine

open Sys2Proof

/-- RXACC (41 R101). -/
def execRxacc (s : State) : Host.Outcome State Fault Refusal :=
  s.perform .rxacc .a1 []

/-- RDB (41 R102). -/
def execRdb (s : State) : Host.Outcome State Fault Refusal :=
  s.perform .rdb .b1 []

/-- RXDONE (41 R110). -/
def execRxdone (s : State) : Host.Outcome State Fault Refusal :=
  s.perform .rxdone .d1 []

/-- RDP: P1, P2, then P3 (41 R116). -/
def execRdp (cap : Half) (s : State) : Host.Outcome State Fault Refusal :=
  s.perform (.rdp cap) (.p1 cap) [.p3]

/-- RDP16 (41 R118). -/
def execRdp16 (s : State) : Host.Outcome State Fault Refusal :=
  s.perform .rdp16 .q1 []

/-- RDS: P1 and P2, then T2 and T3 (41 R120). -/
def execRds (cap : Half) (s : State) : Host.Outcome State Fault Refusal :=
  s.perform (.rds cap) (.p1 cap) [.t2]

end Sys2Proof.Machine
end

