-- ==== Sys2Proof/Machine/Status.lean ====
section
/-! DEFINITION. The meanings of the status operations and of the reserved code (spec 30 R73, 40 R91, R92, R95). -/

namespace Sys2Proof.Machine

open Sys2Proof

/-- The reserved code: the operation ends at once with -1, label REFUSED, and no other change (30 R73, 93 U3,
log 14). -/
def execReserved0 (s : State) : Host.Outcome State Fault Refusal :=
  match s.fg with
  | .idle => .next (s.fail .refused)
  | .running _ _ _ _ => .next s

/-- SETRX (40 R91). -/
def execSetrx (c : BitVec 4) (s : State) : Host.Outcome State Fault Refusal :=
  s.perform (.setrx c) (.setrxS1 c) []

/-- SETTX (40 R92). -/
def execSettx (c : BitVec 4) (s : State) : Host.Outcome State Fault Refusal :=
  s.perform (.settx c) (.settxS1 c) []

/-- IMASK (40 R95). -/
def execImask (m : BitVec 1) (s : State) : Host.Outcome State Fault Refusal :=
  s.perform (.imask m) (.imaskS1 m) []

end Sys2Proof.Machine
end

