-- ==== Sys2Proof/Machine/Transmit.lean ====
section
/-! DEFINITION. The meanings of the transmit operations (spec 42 R131, R132, R134, R136, R138, R140). -/

namespace Sys2Proof.Machine

open Sys2Proof

/-- RSTART: S1 to S3, then S4 and S5 (42 R131). -/
def execRstart (cmd n : Byte) (s : State) : Host.Outcome State Fault Refusal :=
  s.perform (.rstart cmd n) .s1 [.s4 cmd, .s5 n]

/-- WRB (42 R132). -/
def execWrb (d : Byte) (s : State) : Host.Outcome State Fault Refusal :=
  s.perform (.wrb d) (.w1 d) []

/-- FLUSH (42 R134). -/
def execFlush (ind : Byte) (s : State) : Host.Outcome State Fault Refusal :=
  s.perform (.flush ind) (.f1 ind) []

/-- WRP: U1, then the loop U2 and U3 (42 R136). -/
def execWrp (len : Byte) (s : State) : Host.Outcome State Fault Refusal :=
  s.perform (.wrp len) (.u1 len) [.dataStart (lenOfByte len), .dataDone]

/-- WRP16: V1 and V2, then the loop V3 and V4 (42 R138). -/
def execWrp16 (len : Half) (s : State) : Host.Outcome State Fault Refusal :=
  s.perform (.wrp16 len) (.v1 len) [.dataStart len, .dataDone]

/-- REND (42 R140). -/
def execRend (s : State) : Host.Outcome State Fault Refusal :=
  s.perform .rend .e1 []

end Sys2Proof.Machine
end

