-- ==== Sys2Proof/Machine/Dispatch.lean ====
section
/-! DEFINITION. The dispatch: one arm per operation. -/

namespace Sys2Proof.Machine

open Sys2Proof

def exec (i : Instr) (s : State) : Host.Outcome State Fault Refusal :=
  match i with
  | .reserved0 => Sys2Proof.Machine.execReserved0 s
  | .setrx c => Sys2Proof.Machine.execSetrx c s
  | .settx c => Sys2Proof.Machine.execSettx c s
  | .rxacc => Sys2Proof.Machine.execRxacc s
  | .rdb => Sys2Proof.Machine.execRdb s
  | .rxdone => Sys2Proof.Machine.execRxdone s
  | .rdp cap => Sys2Proof.Machine.execRdp cap s
  | .rdp16 => Sys2Proof.Machine.execRdp16 s
  | .rds cap => Sys2Proof.Machine.execRds cap s
  | .rstart cmd n => Sys2Proof.Machine.execRstart cmd n s
  | .wrb d => Sys2Proof.Machine.execWrb d s
  | .wrp len => Sys2Proof.Machine.execWrp len s
  | .wrp16 len => Sys2Proof.Machine.execWrp16 len s
  | .rend => Sys2Proof.Machine.execRend s
  | .flush ind => Sys2Proof.Machine.execFlush ind s
  | .imask m => Sys2Proof.Machine.execImask m s

end Sys2Proof.Machine
end

