-- ==== Sys2Proof/Machine/Fetch.lean ====
section
/-! DEFINITION. Taking the caller's next request, and the three things the machine does in a step (spec 30 R70, 60 R164, 70 R203). -/

namespace Sys2Proof.Machine

open Sys2Proof

/-- The operation of a request, and the state in which it is executed: the request is taken off the caller's
list and its data bytes are IN (30 R70, R71). -/
def State.accept (s : State) (q : Request) (rest : List Request) : Instr × State :=
  (decode q.word, { s with reqs := rest, inBuf := q.pin })

/-- An idle step in which no request is presented: the environment has a turn, and the caller's next request
is one turn nearer (60 R164, log 11). -/
def State.idleTurn (s : State) : State :=
  match s.reqs with
  | [] => s.environment
  | q :: rest => { s with reqs := ⟨q.after - 1, q.word, q.pin⟩ :: rest }.environment

/-- What the machine does in one step with the sequencer idle (30 R70, 70 R203): it takes the request the
caller presents, or it lets the environment have a turn. The block never halts. -/
def State.idleStep (s : State) : Host.Outcome State Fault Refusal :=
  match s.reqs with
  | [] => .next s.idleTurn
  | q :: rest => if q.after = 0 then exec (s.accept q rest).1 (s.accept q rest).2 else .next s.idleTurn

/-- What the machine does in one step: with an operation in progress it goes on with it. -/
def State.stepOnce (s : State) : Host.Outcome State Fault Refusal :=
  match s.fg with
  | .running _ _ _ _ => s.runOn s.budget
  | .idle => s.idleStep

/-- A request presented at once, with no data bytes. -/
def requestOf (w : Nat) : Request := ⟨0, BitVec.ofNat 20 w, []⟩

end Sys2Proof.Machine
end

