-- ==== Sys2Proof/Machine/Step.lean ====
section
/-! DEFINITION. One step of the machine, and where the host places a request for it. -/

namespace Sys2Proof.Machine

open Sys2Proof

/-- One step (`State.stepOnce`). -/
def step (s : State) : Host.Outcome State Fault Refusal := s.stepOnce

/-- The state with this request word as the next the caller presents, and the sequencer idle so that it is
accepted (log 11). -/
def State.withFetchWord (s : State) (_nbits w : Nat) : State :=
  { s with fg := .idle, reqs := requestOf w :: s.reqs }

end Sys2Proof.Machine
end

