-- ==== Sys2Proof/Safety.lean ====
section
/-! DEFINITION. What statements speak of: quiet and clean states, the phases of the two state machines, the invariant, and runs of several operations (spec 10 R18, R27; 41 R124; 42 R152; 70 R203). -/

namespace Sys2Proof.Machine

open Sys2Proof

/-! ## The environment's part -/

/-- FG_OP is idle (70 R203). -/
def State.quiescent (s : State) : Prop := s.fg = .idle

/-- The sequencer is idle and the environment makes no move: the schedule is empty and nothing is held
back. -/
def State.alone (s : State) : Prop := s.fg = .idle ∧ s.env = [] ∧ s.held = []

/-- The move is not a reset. -/
def Move.notReset : Move → Bool
  | .rx _ _ => true
  | .tx => true
  | .tick _ => true
  | .rst => false

/-- The next turn, with what is held back, holds no reset. -/
def State.noResetInTurn (s : State) : Bool := (s.held ++ s.turnMoves).all Move.notReset

/-- No turn of the schedule, and nothing held back, is a reset. -/
def State.noReset (s : State) : Bool :=
  s.held.all Move.notReset && s.env.all (fun t => t.moves.all Move.notReset)

/-- No turn of the schedule is a pause. -/
def State.noPause (s : State) : Bool := s.env.all (fun t => !t.pause)

/-! ## End of a run (70 R203) -/

/-- The clean state of 70 R203. -/
def State.clean (s : State) : Prop :=
  s.quiescent ∧ s.txpos = 0 ∧ s.rxpos = 32 ∧ s.rxbuf[0] = s.cfg.indInvalid ∧ s.dataReceived = false ∧
    s.dataSent = true ∧ s.rxstate = s.cfg.rxReady ∧ s.txstate = s.cfg.txNodata

/-! ## The receive side as a state machine (41 R124) -/

/-- The sequencer stands at the label. -/
def State.standsAt (s : State) (l : Label) : Prop := ∃ op r back, s.fg = .running op r l back

/-- RX_IDLE. -/
def State.rxIdle (s : State) : Prop :=
  s.dataReceived = false ∧ s.rxstate = s.cfg.rxReady ∧ ¬ s.standsAt .b7

/-- RX_AVAIL; that no chunk has been copied since the delivery is the ghost `uncopied`. -/
def State.rxAvail (s : State) : Prop :=
  s.dataReceived = true ∧ s.rxstate = s.cfg.rxBusy ∧ s.uncopied = true

/-- RX_DRAIN. -/
def State.rxDrain (s : State) : Prop :=
  1 ≤ s.rxpos.toNat ∧ s.rxpos.toNat ≤ 32 ∧ s.chunkTagged = true ∧ s.rxstate = s.cfg.rxBusy

/-- RX_WAIT. -/
def State.rxWait (s : State) : Prop :=
  s.standsAt .b7 ∧ s.dataReceived = false ∧ s.rxstate = s.cfg.rxReady ∧ s.rxbuf[0] = s.cfg.indInvalid

/-- Every state in which a read fails at once: the cursor at the boundary of a chunk not tagged IND_CONTINUES
(41 R107). RX_DEAD is one of them; so are the states after reset, after RXDONE, and at the end of a final
chunk. -/
def State.readClosed (s : State) : Prop := 32 ≤ s.rxpos.toNat ∧ s.rxbuf[0] ≠ s.cfg.indContinues

/-- RX_DEAD. 'After a failure' is the ghost `readFailed`: a failure that the table leads to RX_DEAD by
(DEDUCED, log 22). -/
def State.rxDead (s : State) : Prop :=
  s.rxpos = 32 ∧ s.rxbuf[0] ≠ s.cfg.indContinues ∧ s.readFailed = true

/-! ## The transmit side as a state machine (42 R152) -/

/-- TX_IDLE, and TX_CONSUMED, which is the same. -/
def State.txIdle (s : State) : Prop := s.txstate = s.cfg.txNodata ∧ s.dataSent = true

/-- TX_COMPOSE. The table adds 'bytes accumulating in TXBUF', which is no stated function of registers; the
predicate is TXSTATE = TX_PREPARING alone (DEDUCED, log 26). -/
def State.txCompose (s : State) : Prop := s.txstate = s.cfg.txPreparing

/-- TX_WAITACK. -/
def State.txWaitAck (s : State) : Prop := s.standsAt .f3

/-- TX_OFFERED. -/
def State.txOffered (s : State) : Prop := s.txstate = s.cfg.txReady ∧ s.dataSent = false

/-! ## The invariant -/

/-- A label that a primitive returns to, and that asks nothing of the cursors. -/
def Label.plainReturn : Label → Bool
  | .p1r _ => true
  | .p2 => true
  | .p2r => true
  | .p3 => true
  | .q2 => true
  | .q3r => true
  | .q4r => true
  | .t2 => true
  | .t3 => true
  | .s4 _ => true
  | .s5 _ => true
  | .v2 _ => true
  | .dataStart _ => true
  | .dataLoop _ => true
  | .dataDone => true
  | .e2 => true
  | _ => false

/-- A step of FLUSH. -/
def Label.ofFlush : Label → Bool
  | .f1 _ => true
  | .f2 => true
  | .f3 => true
  | .f4 => true
  | .f5 => true
  | _ => false

/-- The labels to return to are such labels; under a step of FLUSH the first may be WRB's W2 (42 R132). -/
def backSound (next : Label) : List Label → Bool
  | [] => true
  | .w2 _ :: rest => next.ofFlush && rest.all Label.plainReturn
  | l :: rest => l.plainReturn && rest.all Label.plainReturn

/-- The cursor allows the access of the next step: RDB's B9 reads below the boundary, WRB's W2 writes below
the capacity (30 R79 a, b). -/
def State.cursorAllows (s : State) : Label → Bool
  | .b9 => decide (s.rxpos.toNat < 32)
  | .w2 _ => decide (s.txpos.toNat < 31)
  | _ => true

/-- The sequencer's labels are sound. -/
def State.sequencerSound (s : State) : Bool :=
  match s.fg with
  | .idle => true
  | .running _ _ next back => s.cursorAllows next && backSound next back

/-- The invariant of the machine: the configuration meets 00 R7; the receive cursor is 1 to 32 (10 R18);
RXREF fits its width (10 R16); TXOUT is no longer than a chunk and is the last hand-off (10 R24); OUT is in
its canonical form; the sequencer's labels are sound. -/
def State.Inv (s : State) : Prop :=
  s.cfg.valid = true ∧
  1 ≤ s.rxpos.toNat ∧ s.rxpos.toNat ≤ 32 ∧
  s.rxref < 2 ^ s.cfg.refW ∧
  s.txout.length ≤ 32 ∧
  (s.txLog = [] ∨ s.txLog.getLast? = some s.txout) ∧
  Memory.wf s.out = true ∧
  s.sequencerSound = true

/-! ## What the rules give while the environment is silent -/

/-- The operation has ended with a result and no failure. -/
def State.finished (s : State) (v : Half) : State := { s with fg := .idle, res := v, cause := none }

/-- The operation has failed: -1, with the ghost label of its cause (30 R74, 60 R166). -/
def State.failed (s : State) (c : Cause) : State :=
  { s with fg := .idle, res := 0xFFFF, cause := some c }

/-- FLUSH of the bytes now in TXBUF while the environment is silent (42 R134, R146, R148): nothing but IND
with an empty buffer; else the hand-off, at once when DATA_SENT is 1, and TX_TIMEOUT_MS later with the ghost
event ACK_TIMEOUT when it is 0. -/
def State.flushed (s : State) (ind : Byte) : State :=
  if s.txpos = 0 then { s with ind := ind }
  else
    { s with
      ind := ind
      t0 := s.now
      now := if s.dataSent then s.now else s.now + s.cfg.txTimeoutMs
      ackTimeouts := if s.dataSent then s.ackTimeouts else s.ackTimeouts + 1
      dataSent := false
      txbuf := s.txbuf.set 0 ind
      txout := (s.txbuf.set 0 ind).toList.take (s.txpos.toNat + 1)
      txLog := s.txLog ++ [(s.txbuf.set 0 ind).toList.take (s.txpos.toNat + 1)]
      txstate := s.cfg.txReady
      txpos := 0 }

/-- The byte `d` put at index 1 + TXPOS, and the cursor moved on (42 R132 W2). -/
def State.put (s : State) (d : Byte) : State :=
  { s with txbuf := s.txbuf.setIfInBounds (1 + s.txpos.toNat) d, txpos := s.txpos + 1 }

/-- WRB of one byte while the environment is silent: a full buffer is flushed as IND_CONTINUES first
(42 R132). -/
def State.appended (s : State) (d : Byte) : State :=
  if 31 ≤ s.txpos.toNat then (s.flushed s.cfg.indContinues).put d else s.put d

/-- WRB of several bytes, one after another. -/
def State.appendedAll (s : State) (ds : List Byte) : State := ds.foldl State.appended s

/-- The `n` data bytes the block finds on `pin`: those the caller supplied, then free values (log 12). -/
def State.pinBytes (s : State) (n : Nat) : List Byte :=
  s.inBuf.take n ++
    (List.range (n - s.inBuf.length)).map (fun k => Config.unsuppliedByte (s.freeCount + k))

/-! ## Schedules in which something arrives during a wait -/

/-- Turns in each of which only time passes. -/
def ticks (ms : List Millis) : List Turn := ms.map (fun m => ⟨[.tick m], false⟩)

/-- Time passes turn by turn, and then a chunk is delivered. -/
def arrival (ms : List Millis) (chunk : Chunk) (ref : Nat) : List Turn :=
  ticks ms ++ [⟨[.rx chunk ref], false⟩]

/-- Time passes turn by turn, and then the outbound chunk is consumed. -/
def acknowledgement (ms : List Millis) : List Turn := ticks ms ++ [⟨[.tx], false⟩]

/-- The timebase after some times have passed. -/
def State.later (s : State) (ms : List Millis) : Millis := ms.foldl (· + ·) s.now

/-- How many milliseconds pass altogether. -/
def totalMillis (ms : List Millis) : Nat := (ms.map BitVec.toNat).sum

/-- The chunk is tagged with one of the two indicators. -/
def tagged (c : Config) (chunk : Chunk) : Prop := chunk[0] = c.indContinues ∨ chunk[0] = c.indFinished

/-! ## Runs of several operations -/

/-- An operation with the data bytes the caller supplies for it. -/
abbrev Call := Instr × List Byte

/-- The operations one after another, each with its data bytes as IN; none if one does not answer a next
state. -/
def runCalls : List Call → State → Option State
  | [], s => some s
  | (i, data) :: rest, s =>
    match exec i { s with inBuf := data } with
    | .next t => runCalls rest t
    | .fault _ => none
    | .refused _ => none

/-- So many RDB operations one after another: their results and the last state. -/
def readMany : Nat → State → Option (List Half × State)
  | 0, s => some ([], s)
  | n + 1, s =>
    match exec .rdb s with
    | .next t =>
      match readMany n t with
      | some (rs, u) => some (t.res :: rs, u)
      | none => none
    | .fault _ => none
    | .refused _ => none

/-- One continuation chunk: the times that pass turn by turn before it is delivered, the chunk and its
reference. -/
structure Delivery where
  ms : List Millis
  chunk : Chunk
  ref : Nat
deriving DecidableEq, Repr

/-- The chunk is delivered during the wait B7 of the RDB that stands at the boundary: after its step B5 (so
at least five turns pass) and before RX_TIMEOUT_MS have passed since its step B6 (41 R106). -/
def Delivery.inTime (d : Delivery) (c : Config) : Prop :=
  5 ≤ d.ms.length ∧ totalMillis (d.ms.drop 6) < c.rxTimeoutMs.toNat

/-- The state in which RDB's wait has ended with this chunk and the chunk has been copied, the cursor not yet
set: the schedule is used up (41 R102 B3 to B8). -/
def State.afterWait (s : State) (d : Delivery) : State :=
  { s with
    xbuf := d.chunk
    rxref := d.ref % 2 ^ s.cfg.refW
    rxstate := s.cfg.rxBusy
    dataReceived := true
    rxbuf := d.chunk
    uncopied := false
    t0 := s.later (d.ms.take 6)
    now := s.later d.ms
    env := [] }

/-- The state in which RDB's wait has run into its timeout in a silent environment (41 R103); the value of NOW
is that of log 8. -/
def State.afterTimeout (s : State) : State :=
  { s with
    dataReceived := false
    rxbuf := s.rxbuf.set 0 s.cfg.indInvalid
    rxstate := s.cfg.rxReady
    t0 := s.now
    now := s.now + s.cfg.rxTimeoutMs
    readFailed := true }

/-- Empty turns, one before each of so many atomic steps, and then a delivery in the wait that follows. -/
def deliveryAfter (steps : Nat) (d : Delivery) : List Turn :=
  List.replicate steps ⟨[], false⟩ ++ arrival d.ms d.chunk d.ref

/-- How many atomic steps of RDP or RDS lie between the delivery in one wait and RDB's B1 at the next boundary
(log 16): the rest of the wait, the copy and the byte, then 30 bytes, and the loop test. A delivery after five
turns comes just before B6, a later one just before a poll of B7. -/
def Delivery.gap (d : Delivery) : Nat := if d.ms.length = 5 then 127 else 126

/-- The turns of a parameter read that crosses one boundary after another, each chunk delivered in the wait at its
own boundary, and nothing else happening; `steps` atomic steps lie before the first of these waits' RDB. -/
def messageSchedule : Nat → List Delivery → List Turn
  | _, [] => []
  | steps, d :: ds => deliveryAfter steps d ++ messageSchedule d.gap ds

/-- The rest of a message: for each further chunk the RDB at the boundary, during whose wait the chunk is
delivered and nothing else happens, and then 30 RDB inside the chunk. The results and the last state. -/
def readContinuations : List Delivery → State → Option (List Half × State)
  | [], s => some ([], s)
  | d :: ds, s =>
    match readMany 1 { s with env := arrival d.ms d.chunk d.ref } with
    | none => none
    | some (r, s1) =>
      match readMany 30 s1 with
      | none => none
      | some (rs, s2) =>
        match readContinuations ds s2 with
        | none => none
        | some (qs, s3) => some (r ++ rs ++ qs, s3)

/-- The 31 payload bytes of a chunk (20 R41). -/
def payload (c : Chunk) : List Byte := c.toList.drop 1

/-! ## Messages and chunks (30 R63 to R67) -/

/-- The chunks that carry a logical message, without padding (30 R67): K = ceil(N / 31) chunks of 31 message
bytes each, the last of the rest, all but the last tagged IND_CONTINUES. -/
def chunkStream (c : Config) (m : List Byte) : List (List Byte) :=
  (List.range ((m.length + 30) / 31)).map (fun k =>
    (if k + 1 = (m.length + 30) / 31 then c.indFinished else c.indContinues) :: (m.drop (31 * k)).take 31)

/-- A chunk padded with zero bytes to 32 (20 R47). -/
def padded (bs : List Byte) : Chunk := Vector.ofFn (fun k => (bs[k.val]?).getD 0)

/-- A parameter of a reply: whether it takes the 2-byte-length form, and its data bytes (30 R65, R66). -/
structure Param where
  wide : Bool
  data : List Byte
deriving DecidableEq, Repr

/-- The data fit the length form (30 R65, R66). -/
def Param.fits (p : Param) : Bool :=
  if p.wide then decide (p.data.length ≤ 65535) else decide (p.data.length ≤ 255)

/-- The operation that appends the parameter, with its data bytes. -/
def Param.call (p : Param) : Call :=
  if p.wide then (.wrp16 (BitVec.ofNat 16 p.data.length), p.data)
  else (.wrp (BitVec.ofNat 8 p.data.length), p.data)

/-- The parameter's bytes in the message (30 R65, R66). -/
def Param.bytes (p : Param) : List Byte :=
  if p.wide then BitVec.ofNat 8 (p.data.length / 256) :: BitVec.ofNat 8 p.data.length :: p.data
  else BitVec.ofNat 8 p.data.length :: p.data

/-- A reply: RSTART, its parameters, REND (42 R130). -/
def replyCalls (cmd n : Byte) (ps : List Param) : List Call :=
  (.rstart cmd n, []) :: ps.map Param.call ++ [(.rend, [])]

/-- The logical message of a reply (30 R63). -/
def replyBytes (c : Config) (cmd n : Byte) (ps : List Param) : List Byte :=
  c.startCmd :: (cmd ||| 0x80) :: n :: ps.flatMap Param.bytes ++ [c.endCmd]

/-! ## States that differ in unspecified bytes only (10 R27) -/

/-- Two states that agree but for bytes no rule may observe: TXBUF outside the payload bytes now in it, and,
with the receive cursor at the boundary, RXBUF outside its indicator. -/
def State.agree (s u : State) : Prop :=
  u = { s with txbuf := u.txbuf, rxbuf := u.rxbuf } ∧
  (∀ k, 1 ≤ k → k ≤ s.txpos.toNat → s.txbuf[k]? = u.txbuf[k]?) ∧
  s.rxbuf[0] = u.rxbuf[0] ∧
  (s.rxpos.toNat < 32 → s.rxbuf = u.rxbuf)

end Sys2Proof.Machine
end

