-- ==== Sys2Proof/Certificates/Slice0/Obligations.lean ====
section
/-! DEFINITION. The statements for the provers, in the order of the spec's files. -/

open Sys2Proof Sys2Proof.Machine

/-! ## Encoding (spec 30) -/

/-- 30 R72: `op` selects the operation, and the operands are those bits of `arg` that 30 R71 names; the other
bits are ignored. -/
def Obligations.OpSelectsTheOperation : Prop :=
  ∀ arg : Half,
    decode (0x0#4 ++ arg) = .reserved0 ∧
    decode (0x1#4 ++ arg) = .setrx (arg.extractLsb' 0 4) ∧
    decode (0x2#4 ++ arg) = .settx (arg.extractLsb' 0 4) ∧
    decode (0x3#4 ++ arg) = .rxacc ∧
    decode (0x4#4 ++ arg) = .rdb ∧
    decode (0x5#4 ++ arg) = .rxdone ∧
    decode (0x6#4 ++ arg) = .rdp arg ∧
    decode (0x7#4 ++ arg) = .rdp16 ∧
    decode (0x8#4 ++ arg) = .rds arg ∧
    decode (0x9#4 ++ arg) = .rstart (arg.extractLsb' 8 8) (arg.extractLsb' 0 8) ∧
    decode (0xA#4 ++ arg) = .wrb (arg.extractLsb' 0 8) ∧
    decode (0xB#4 ++ arg) = .wrp (arg.extractLsb' 0 8) ∧
    decode (0xC#4 ++ arg) = .wrp16 arg ∧
    decode (0xD#4 ++ arg) = .rend ∧
    decode (0xE#4 ++ arg) = .flush (arg.extractLsb' 0 8) ∧
    decode (0xF#4 ++ arg) = .imask (arg.extractLsb' 0 1)

/-- A few request words written out from 30 R70, R71 and R77 decode to the operations they stand for. -/
def Obligations.WrittenRequestWordsDecode : Prop :=
  decode 0x00000 = .reserved0 ∧ decode 0x2ABC7 = .settx 0x7 ∧ decode 0x40000 = .rdb ∧
  decode 0x60010 = .rdp 0x0010 ∧ decode 0x92101 = .rstart 0x21 0x01 ∧ decode 0xA00AA = .wrb 0xAA ∧
  decode 0xCFFFF = .wrp16 0xFFFF ∧ decode 0xF0001 = .imask 1

/-- Decoding the request word of a well-formed operation gives the operation back, for every operation and
every value of its operands. -/
def Obligations.DecodeUndoesEncode : Prop :=
  ∀ i : Instr, i.wellFormed = true →
    decode (encode i) = i ∧ decodeNat (encode i).toNat = .ok i ∧
    decodeTableWord 24 (encode i).toNat = some i

/-- Encoding what a word decodes to gives the word with the bits its operation does not use cleared; so two
words of the same operation that agree in the used bits decode alike (30 R71). -/
def Obligations.EncodeClearsOnlyUnusedBits : Prop :=
  (∀ w : RequestWord, encode (decode w) = opField w ++ (argField w &&& usedBits (opField w))) ∧
  ∀ w w' : RequestWord, opField w = opField w' →
    argField w &&& usedBits (opField w) = argField w' &&& usedBits (opField w') → decode w = decode w'

/-! ## The step (spec 30 R70, 60 R164) -/

/-- A step with the sequencer idle and a request presented runs the decoded operation, in the state in which
the request is taken and its data bytes are IN (30 R70). -/
def Obligations.StepRunsThePresentedRequest : Prop :=
  ∀ (s : State) (q : Request) (rest : List Request) (i : Instr),
    s.fg = .idle → s.reqs = q :: rest → q.after = 0 → decode q.word = i → i.wellFormed = true →
    step s = exec i { s with reqs := rest, inBuf := q.pin }

/-- While an operation is in progress no request is accepted: every operation presented changes nothing, and
the step goes on with the operation in progress (30 R70; that the turned-away request is a next state is the
model's reading of 93 U10, log 15). Between two atomic steps an event is a transition by itself, and an atomic
step is one (00 R5, 60 R164; how the schedule asks for it is the model's, log 10). -/
def Obligations.BusySequencerAcceptsNoRequest : Prop :=
  ∀ (s : State) (op : Instr) (r : Half) (next : Label) (back : List Label),
    s.fg = .running op r next back →
    (∀ i : Instr, exec i s = .next s) ∧ step s = s.runOn s.budget ∧
    (s.pauseDue = true → step s = .next s.environment) ∧
    (∀ m rest, s.held = [] → s.env = ⟨[m], true⟩ :: rest →
      step s = .next (({ s with env := rest } : State).applyMove m)) ∧
    ∀ t rest, s.held = [] → s.env = ⟨[], false⟩ :: ⟨[], true⟩ :: rest → s.foreground = .next t →
      t.fg ≠ .idle → step s = .next { t with env := rest }

/-- With no request presented the step is a turn of the environment: the block never halts (70 R203). Where a
request is due, its word does not decode to the reserved code and the next turn is a pause without a reset, the
step accepts the request, that turn happens, and the decoded operation is in progress at some label of the
sequencer with nothing of it done; which label that is, is not said here (log 10). -/
def Obligations.IdleStepIsATurnOfTheEnvironment : Prop :=
  ∀ s : State, s.fg = .idle →
    (s.reqs = [] → step s = .next s.environment) ∧
    (∀ q rest n, s.reqs = q :: rest → q.after = n + 1 →
      step s = .next ({ s with reqs := ⟨n, q.word, q.pin⟩ :: rest } : State).environment) ∧
    ∀ q rest, s.reqs = q :: rest → q.after = 0 → decode q.word ≠ .reserved0 → s.pauseDue = true →
      s.noResetInTurn = true →
      ∃ next back, step s = .next { ({ s with reqs := rest, inBuf := q.pin } : State).environment with
        fg := .running (decode q.word) 0 next back }

/-! ## State and reset (spec 10, 70) -/

/-- 10 R26: the values after reset that the spec gives; the `status` port of the default configuration is
0x10; and the state is the clean state of 70 R203. The values the spec leaves unspecified are not stated. -/
def Obligations.ResetLeavesTheStatedValues : Prop :=
  (∀ c : Config,
    (State.ofConfig c).rxstate = c.rxReady ∧ (State.ofConfig c).txstate = c.txNodata ∧
    (State.ofConfig c).statusByte = c.rxReady ++ c.txNodata ∧
    (State.ofConfig c).statusWord = (c.rxReady ++ c.txNodata).setWidth c.statusWordW <<< c.statusShift ∧
    (State.ofConfig c).dataReceived = false ∧ (State.ofConfig c).dataSent = true ∧
    (State.ofConfig c).rxbuf[0] = c.indInvalid ∧ (State.ofConfig c).rxpos = 32 ∧
    (State.ofConfig c).txpos = 0 ∧ (State.ofConfig c).irqOff = false ∧ (State.ofConfig c).fg = .idle ∧
    (State.ofConfig c).clean) ∧
  State.reset = State.ofConfig Config.default ∧ Sys2Proof.core.reset = State.reset ∧
  State.reset.statusWord = 0x10#32

/-- 70 R200: a reset puts the registers to the values of 10 R26, ends an operation in progress without a
result and makes the sequencer idle; it does not write XBUF, TXOUT or `now`. A step in whose turn only the
reset happens ends the operation in progress. -/
def Obligations.ResetEndsTheOperationInProgress : Prop :=
  (∀ s : State,
    (s.applyMove .rst).fg = .idle ∧ (s.applyMove .rst).cfg = s.cfg ∧
    (s.applyMove .rst).rxstate = s.cfg.rxReady ∧ (s.applyMove .rst).txstate = s.cfg.txNodata ∧
    (s.applyMove .rst).dataReceived = false ∧ (s.applyMove .rst).dataSent = true ∧
    (s.applyMove .rst).rxbuf[0] = s.cfg.indInvalid ∧ (s.applyMove .rst).rxpos = 32 ∧
    (s.applyMove .rst).txpos = 0 ∧ (s.applyMove .rst).irqOff = false ∧
    (s.applyMove .rst).xbuf = s.xbuf ∧ (s.applyMove .rst).txout = s.txout ∧
    (s.applyMove .rst).now = s.now) ∧
  ∀ (s : State) (op : Instr) (r : Half) (next : Label) (back : List Label) (p : Bool) (rest : List Turn),
    s.fg = .running op r next back → s.held = [] → s.env = ⟨[.rst], p⟩ :: rest →
    step s = .next (({ s with env := rest } : State).applyMove .rst)

/-- 10 R12, R13: the packed byte is `(RXSTATE << 4) | TXSTATE`, and the status word holds it at STATUS_SHIFT
with every other bit 0. -/
def Obligations.StatusWordIsTheShiftedPackedByte : Prop :=
  ∀ s : State, s.cfg.valid = true →
    s.statusByte = (s.rxstate.setWidth 8 <<< 4) ||| s.txstate.setWidth 8 ∧
    ∀ k, k < s.cfg.statusWordW →
      s.statusWord.getLsbD k =
        if s.cfg.statusShift ≤ k ∧ k < s.cfg.statusShift + 8 then s.statusByte.getLsbD (k - s.cfg.statusShift)
        else false

/-- 10 R11: the atomic steps that write a status field are the ones named, each writes one field only, and
with the value named. -/
def Obligations.OnlyNamedStepsWriteTheStatus : Prop :=
  ∀ (s t : State) (op : Instr) (r : Half) (next : Label) (back : List Label),
    s.fg = .running op r next back → s.foreground = .next t →
    (t.rxstate ≠ s.rxstate →
      (next = .setrxS1 t.rxstate ∨ ((next = .b5 ∨ next = .d3) ∧ t.rxstate = s.cfg.rxReady)) ∧
      t.txstate = s.txstate) ∧
    (t.txstate ≠ s.txstate →
      (next = .settxS1 t.txstate ∨ (next = .s1 ∧ t.txstate = s.cfg.txPreparing) ∨
        (next = .f4 ∧ t.txstate = s.cfg.txReady)) ∧
      t.rxstate = s.rxstate)

/-- 10 R14, R15: the foreground never sets a readiness flag, and clears DATA_RECEIVED only in RDB's B3 and
RXDONE's D1 and DATA_SENT only in FLUSH's F4; a move of the environment other than a reset clears neither,
and sets DATA_RECEIVED only as `ev_rx` and DATA_SENT only as `ev_tx`. -/
def Obligations.OnlyNamedStepsWriteTheFlags : Prop :=
  (∀ (s t : State) (op : Instr) (r : Half) (next : Label) (back : List Label),
    s.fg = .running op r next back → s.foreground = .next t →
    (t.dataReceived ≠ s.dataReceived → t.dataReceived = false ∧ (next = .b3 ∨ next = .d1)) ∧
    (t.dataSent ≠ s.dataSent → t.dataSent = false ∧ next = .f4)) ∧
  ∀ (s : State) (m : Move), m.notReset = true →
    ((s.applyMove m).dataReceived ≠ s.dataReceived →
      (s.applyMove m).dataReceived = true ∧ ∃ c r, m = .rx c r) ∧
    ((s.applyMove m).dataSent ≠ s.dataSent → (s.applyMove m).dataSent = true ∧ m = .tx)

/-! ## Status family (spec 40) -/

/-- 30 R73: a request with `op` = 0x0 ends at once with `res` = -1 and changes no other state but the ghost
label REFUSED; whatever the environment has scheduled has its turn later. -/
def Obligations.ReservedCodeIsRefusedWithMinusOne : Prop :=
  ∀ (w : RequestWord) (s : State), opField w = 0x0 → s.fg = .idle →
    decode w = .reserved0 ∧
    exec .reserved0 s = .next { s with res := 0xFFFF, cause := some .refused }

/-- 40 R91, under any schedule: SETRX writes the receive field and republishes the status byte, after the
turn of the environment that precedes its one atomic step; nothing else changes. (Where that turn is a pause of
the model's schedule, IdleStepIsATurnOfTheEnvironment says what happens.) -/
def Obligations.SetrxWritesTheReceiveField : Prop :=
  (∀ arg : Half, decode (0x1#4 ++ arg) = .setrx (arg.extractLsb' 0 4)) ∧
  ∀ (s : State) (c : BitVec 4), s.fg = .idle → s.noResetInTurn = true → s.pauseDue = false →
    ∃ t, exec (.setrx c) s = .next t ∧
      t = { s.environment with rxstate := c, res := 0, cause := none } ∧
      t.statusByte = c ++ s.environment.txstate ∧ t.dataReceived = s.environment.dataReceived

/-- 40 R92, under any schedule: SETTX writes the transmit field and republishes the status byte; it hands no
chunk to the adapter and does not touch DATA_SENT. -/
def Obligations.SettxWritesTheTransmitField : Prop :=
  (∀ arg : Half, decode (0x2#4 ++ arg) = .settx (arg.extractLsb' 0 4)) ∧
  ∀ (s : State) (c : BitVec 4), s.fg = .idle → s.noResetInTurn = true → s.pauseDue = false →
    ∃ t, exec (.settx c) s = .next t ∧
      t = { s.environment with txstate := c, res := 0, cause := none } ∧
      t.statusByte = s.environment.rxstate ++ c ∧ t.dataSent = s.environment.dataSent ∧ t.txout = s.txout

/-- 40 R95, under any schedule: IMASK writes IRQ_OFF; suppression does not nest. Where the turn before its step is
a pause, it stands before its step after it (the model's choice, log 10). -/
def Obligations.ImaskWritesTheSuppressBit : Prop :=
  ∀ (s : State) (m : BitVec 1), s.fg = .idle → s.noResetInTurn = true →
    (s.pauseDue = true →
      exec (.imask m) s = .next { s.environment with fg := .running (.imask m) 0 (.imaskS1 m) [] }) ∧
    (s.pauseDue = false → exec (.imask m) s =
      .next { s.environment with irqOff := decide (m = 1), res := 0, cause := none })

/-- 40 R93: a write of one status field, by an operation's step or by a notification, leaves the other as it
was, and SETRX and SETTX in either order end with the same packed byte. -/
def Obligations.StatusFieldsAreIndependent : Prop :=
  (∀ (s t : State), s.foreground = .next t → t.rxstate = s.rxstate ∨ t.txstate = s.txstate) ∧
  (∀ (s : State) (m : Move), m.notReset = true →
    (s.applyMove m).rxstate = s.rxstate ∨ (s.applyMove m).txstate = s.txstate) ∧
  ∀ (s : State) (a b : BitVec 4), s.alone →
    (∃ t, runCalls [(.setrx a, []), (.settx b, [])] s = some t ∧ t.statusByte = a ++ b) ∧
    (∃ t, runCalls [(.settx b, []), (.setrx a, [])] s = some t ∧ t.statusByte = a ++ b)

/-- 40 R95, 60 R163, under any schedule: after IMASK 1 no notification falls between two setters, so the pair
ends with the two codes it wrote; IMASK 0 then ends the suppression, with both codes still shown. -/
def Obligations.SuppressedSetterPairIsUndisturbed : Prop :=
  ∀ (s : State) (a b : BitVec 4), s.fg = .idle → s.noReset = true → s.noPause = true →
    ∃ t u, runCalls [(.imask 1, []), (.setrx a, []), (.settx b, [])] s = some t ∧
      t.fg = .idle ∧ t.irqOff = true ∧ t.statusByte = a ++ b ∧
      t.dataReceived = s.environment.dataReceived ∧ t.dataSent = s.environment.dataSent ∧
      t.xbuf = s.environment.xbuf ∧
      runCalls [(.imask 0, [])] t = some u ∧ u.fg = .idle ∧ u.irqOff = false ∧ u.statusByte = a ++ b

/-! ## Receive family (spec 41) -/

/-- 41 R101, the environment silent: RXACC takes the pending chunk, or fails with no change, or fails with
the bad chunk in RXBUF and the cursor at the boundary. -/
def Obligations.RxaccAcceptsThePendingChunk : Prop :=
  ∀ s : State, s.alone →
    exec .rxacc s = .next (
      if s.dataReceived = false then s.failed .noChunk
      else if s.xbuf[0] = s.cfg.indContinues ∨ s.xbuf[0] = s.cfg.indFinished then
        ({ s with rxbuf := s.xbuf, rxpos := 1, uncopied := false, readFailed := false } : State).finished 0
      else ({ s with rxbuf := s.xbuf, rxpos := 32, uncopied := false, readFailed := true } : State).failed
        .badIndicator)

/-- 70 R210: of the chunks delivered before the copy RXACC takes the last, and the first is lost without a
sign: both in the turn before A1; one before A1 and one between A1 and A2; one pending before the operation and
one in either window. -/
def Obligations.SecondDeliveryReplacesTheFirst : Prop :=
  ∀ (s : State) (a b : Chunk) (ra rb : Nat), s.fg = .idle → s.held = [] → s.irqOff = false →
    tagged s.cfg b →
    (s.env = [⟨[.rx a ra, .rx b rb], false⟩] ∨ s.env = [⟨[.rx a ra], false⟩, ⟨[.rx b rb], false⟩] ∨
      (s.dataReceived = true ∧
        (s.env = [⟨[.rx b rb], false⟩] ∨ s.env = [⟨[], false⟩, ⟨[.rx b rb], false⟩]))) →
    exec .rxacc s = .next (({ s with
      xbuf := b, rxref := rb % 2 ^ s.cfg.refW, rxstate := s.cfg.rxBusy, dataReceived := true,
      rxbuf := b, rxpos := 1, env := [], uncopied := false, readFailed := false } : State).finished 0)

/-- 41 R105, the environment silent: RDB inside a chunk returns the byte at the cursor and moves the cursor
on, whatever the byte and whatever the indicator; nothing else changes. -/
def Obligations.RdbReturnsTheByteAtTheCursor : Prop :=
  ∀ (s : State) (v : Byte), s.alone → s.rxbuf[s.rxpos.toNat]? = some v →
    exec .rdb s = .next (({ s with rxpos := s.rxpos + 1 } : State).finished (v.setWidth 16))

/-- 41 R105, under any schedule: RDB inside a chunk never fails, and what the environment does during it
changes neither the byte nor the working buffer. -/
def Obligations.RdbInsideAChunkNeverFails : Prop :=
  ∀ (s : State) (v : Byte), s.fg = .idle → s.noReset = true → s.noPause = true →
    s.rxbuf[s.rxpos.toNat]? = some v →
    ∃ t, exec .rdb s = .next t ∧ t.fg = .idle ∧ t.res = v.setWidth 16 ∧ t.cause = none ∧
      t.rxpos = s.rxpos + 1 ∧ t.rxbuf = s.rxbuf

/-- 41 R103, the environment silent: at the boundary of a chunk not tagged IND_CONTINUES, RDB fails and
nothing has changed; at the boundary of a chunk tagged IND_CONTINUES, it waits until RX_TIMEOUT_MS have passed
and fails with the flag cleared, the buffer invalidated and the status READY (NOW at the end is log 8's
choice). -/
def Obligations.RdbFailsAtTheBoundary : Prop :=
  ∀ s : State, s.alone → 32 ≤ s.rxpos.toNat →
    exec .rdb s = .next (
      if s.rxbuf[0] = s.cfg.indContinues then
        ({ s with
          dataReceived := false, rxbuf := s.rxbuf.set 0 s.cfg.indInvalid, rxstate := s.cfg.rxReady,
          t0 := s.now, now := s.now + s.cfg.rxTimeoutMs, readFailed := true } : State).failed .rxTimeout
      else s.failed .noContinuation)

/-- 41 R102, R103: a chunk delivered during the wait is taken. Tagged, its first payload byte is returned and
the cursor stands at 2; not tagged, the read fails with the chunk in RXBUF and the cursor still at the
boundary. In either case the status is BUSY and the flag is set. -/
def Obligations.RdbTakesTheContinuation : Prop :=
  ∀ (s : State) (d : Delivery), s.fg = .idle → s.held = [] → s.irqOff = false →
    32 ≤ s.rxpos.toNat → s.rxbuf[0] = s.cfg.indContinues →
    s.env = arrival d.ms d.chunk d.ref → d.inTime s.cfg →
    (tagged s.cfg d.chunk →
      exec .rdb s = .next (({ s with
        xbuf := d.chunk, rxref := d.ref % 2 ^ s.cfg.refW, rxstate := s.cfg.rxBusy, dataReceived := true,
        rxbuf := d.chunk, rxpos := 2, t0 := s.later (d.ms.take 6), now := s.later d.ms,
        env := [], uncopied := false, readFailed := false } : State).finished (d.chunk[1].setWidth 16))) ∧
    (¬ tagged s.cfg d.chunk →
      exec .rdb s = .next (({ s with
        xbuf := d.chunk, rxref := d.ref % 2 ^ s.cfg.refW, rxstate := s.cfg.rxBusy, dataReceived := true,
        rxbuf := d.chunk, t0 := s.later (d.ms.take 6), now := s.later d.ms,
        env := [], uncopied := false, readFailed := true } : State).failed .badIndicator))

/-- 60 R172: each poll of the two waits tests the flag before the deadline; the wait of RDB fails, and the wait
of FLUSH goes on, at the first poll that finds the flag 0 and the elapsed time, modulo 2^32, at least the
timeout (that NOW runs to the deadline when the schedule is used up is log 8's choice). -/
def Obligations.PollTestsTheFlagBeforeTheDeadline : Prop :=
  ∀ (s : State) (op : Instr) (r : Half) (back : List Label),
    (s.fg = .running op r .b7 back →
      s.foreground = .next (
        if s.dataReceived = true then { s with fg := .running op 0 .b8 back }
        else if s.cfg.rxTimeoutMs.toNat ≤ (s.now - s.t0).toNat then
          ({ s with readFailed := true } : State).failed .rxTimeout
        else { s with fg := .running op 0 .b7 back,
                      now := if s.env = [] then s.t0 + s.cfg.rxTimeoutMs else s.now })) ∧
    (s.fg = .running op r .f3 back →
      s.foreground = .next (
        if s.dataSent = true then { s with fg := .running op 0 .f4 back }
        else if s.cfg.txTimeoutMs.toNat ≤ (s.now - s.t0).toNat then
          { s with fg := .running op 0 .f4 back, ackTimeouts := s.ackTimeouts + 1 }
        else { s with fg := .running op 0 .f3 back,
                      now := if s.env = [] then s.t0 + s.cfg.txTimeoutMs else s.now }))

/-- 41 R107: every failed RDB leaves the cursor at the boundary of a chunk not tagged IND_CONTINUES, whatever
the schedule, and so do RXDONE, an RXACC that failed with BAD_INDICATOR, and reset; no operation but RXACC leaves
such a state, nor does an RXACC that fails, whatever the schedule; and in such a state every read operation fails
with NO_CONTINUATION, whatever the schedule, and what has changed is what the turns of the environment before its
atomic steps have changed, and nothing else. That these are three for RDP, RDP16 and RDS, the call in P1 and Q1
being an atomic step of its own, is log 16's reading; their failure is 41 R122's. -/
def Obligations.ReadFailureIsSticky : Prop :=
  (∀ s t : State, s.cfg.valid = true → s.fg = .idle → exec .rdb s = .next t → t.fg = .idle →
    t.res = 0xFFFF → t.readClosed) ∧
  (∀ s t : State, s.cfg.valid = true → s.fg = .idle → exec .rxdone s = .next t → t.fg = .idle →
    t.readClosed) ∧
  (∀ s t : State, s.cfg.valid = true → s.fg = .idle → exec .rxacc s = .next t → t.fg = .idle →
    t.cause = some .badIndicator → t.readClosed) ∧
  (∀ c : Config, c.valid = true → (State.ofConfig c).readClosed) ∧
  (∀ (i : Instr) (s t : State), i ≠ .rxacc → s.cfg.valid = true → s.fg = .idle → s.readClosed →
    exec i s = .next t → t.readClosed) ∧
  (∀ s t : State, s.cfg.valid = true → s.fg = .idle → s.readClosed → exec .rxacc s = .next t →
    t.fg = .idle → t.res = 0xFFFF → t.readClosed) ∧
  ∀ (s : State) (cap : Half), s.fg = .idle → s.noReset = true → s.noPause = true → s.readClosed →
    exec .rdb s = .next (s.environment.environment.failed .noContinuation) ∧
    exec (.rdp cap) s = .next (s.environment.environment.environment.failed .noContinuation) ∧
    exec .rdp16 s = .next (s.environment.environment.environment.failed .noContinuation) ∧
    exec (.rds cap) s = .next (s.environment.environment.environment.failed .noContinuation)

/-- 41 R110: RXDONE clears the flag, invalidates the chunk, parks the cursor and shows READY; a chunk delivered
before its step D1 is dropped; one delivered between D1 and D3 is pending while the status invites a chunk. -/
def Obligations.RxdoneReleasesTheMessage : Prop :=
  ∀ s : State, s.fg = .idle → s.held = [] →
    (s.env = [] →
      exec .rxdone s = .next (({ s with
        dataReceived := false, rxbuf := s.rxbuf.set 0 s.cfg.indInvalid, rxpos := 32,
        rxstate := s.cfg.rxReady, readFailed := false } : State).finished 0)) ∧
    ∀ (c : Chunk) (ref : Nat), s.irqOff = false →
      (s.env = [⟨[.rx c ref], false⟩] →
        exec .rxdone s = .next (({ s with
          xbuf := c, rxref := ref % 2 ^ s.cfg.refW, dataReceived := false,
          rxbuf := s.rxbuf.set 0 s.cfg.indInvalid, rxpos := 32, rxstate := s.cfg.rxReady,
          env := [], uncopied := true, readFailed := false } : State).finished 0)) ∧
      (∀ n, n = 1 ∨ n = 2 → s.env = List.replicate n ⟨[], false⟩ ++ [⟨[.rx c ref], false⟩] →
        exec .rxdone s = .next (({ s with
          xbuf := c, rxref := ref % 2 ^ s.cfg.refW, dataReceived := true,
          rxbuf := s.rxbuf.set 0 s.cfg.indInvalid, rxpos := 32, rxstate := s.cfg.rxReady,
          env := [], uncopied := true, readFailed := false } : State).finished 0))

/-- 41 R116, inside a chunk: RDP consumes the length byte and all L data bytes, stores those below CAP, and
returns min(L, CAP). -/
def Obligations.RdpStoresAParameterClampedToCap : Prop :=
  ∀ (s : State) (cap : Half) (len : Byte), s.alone → s.rxbuf[s.rxpos.toNat]? = some len →
    s.rxpos.toNat + 1 + len.toNat ≤ 32 →
    ∃ out, exec (.rdp cap) s = .next (({ s with
        rxpos := BitVec.ofNat 6 (s.rxpos.toNat + 1 + len.toNat), l := len.setWidth 16,
        i := len.setWidth 16, cap := cap, out := out } : State).finished
          (if len.toNat ≤ cap.toNat then len.setWidth 16 else cap)) ∧
      ∀ k, Memory.read out k =
        if k < len.toNat ∧ k < cap.toNat then s.rxbuf[s.rxpos.toNat + 1 + k]? else Memory.read s.out k

/-- 41 R116, R120, across any number of boundaries, none included: the parameter's bytes are those of the rest of
the chunk in RXBUF and of the chunks delivered, each in the wait at its own boundary, in order, wherever the
length byte stands (the turns between count the model's atomic steps, log 16); RDS then writes the terminator.
And where the length byte is the first of a new chunk, RDP, RDP16 and RDS end as they would if they had been issued
with that chunk just accepted, or fail with BAD_INDICATOR. -/
def Obligations.RdpCrossesAChunkBoundary : Prop :=
  (∀ (s : State) (cap : Half) (len : Byte) (data : List Byte) (ds : List Delivery),
    s.fg = .idle → s.held = [] → s.irqOff = false →
    s.rxbuf.toList.drop s.rxpos.toNat ++ (ds.map Delivery.chunk).flatMap payload = len :: data →
    (ds ≠ [] → s.rxbuf[0] = s.cfg.indContinues) →
    (∀ ch ∈ (ds.map Delivery.chunk).dropLast, ch[0] = s.cfg.indContinues) →
    (∀ d ∈ ds, d.inTime s.cfg ∧ tagged s.cfg d.chunk) →
    (ds ≠ [] → 32 - s.rxpos.toNat + 31 * (ds.length - 1) ≤ len.toNat) → len.toNat ≤ data.length →
    s.env = messageSchedule (if s.rxpos.toNat < 32 then 5 + 4 * (31 - s.rxpos.toNat) else 1) ds →
    ∃ out out',
      exec (.rdp cap) s = .next (({ ds.foldl State.afterWait s with
        rxpos := BitVec.ofNat 6 (min s.rxpos.toNat 32 + len.toNat + 1 - 31 * ds.length),
        l := len.setWidth 16, i := len.setWidth 16, cap := cap,
        readFailed := if ds = [] then s.readFailed else false, out := out } : State).finished
          (if len.toNat ≤ cap.toNat then len.setWidth 16 else cap)) ∧
      exec (.rds cap) s = .next (({ ds.foldl State.afterWait s with
        rxpos := BitVec.ofNat 6 (min s.rxpos.toNat 32 + len.toNat + 1 - 31 * ds.length),
        l := len.setWidth 16, i := len.setWidth 16, cap := cap,
        readFailed := if ds = [] then s.readFailed else false, out := out' } : State).finished
          (if len.toNat ≤ cap.toNat then len.setWidth 16 else cap)) ∧
      (∀ k, Memory.read out k = if k < len.toNat ∧ k < cap.toNat then data[k]? else Memory.read s.out k) ∧
      ∀ k, Memory.read out' k = if k = min len.toNat cap.toNat then some 0 else Memory.read out k) ∧
  ∀ (s : State) (i : Instr) (d : Delivery), s.fg = .idle → s.held = [] → s.irqOff = false →
    32 ≤ s.rxpos.toNat → s.rxbuf[0] = s.cfg.indContinues → s.env = deliveryAfter 1 d → d.inTime s.cfg →
    (i = .rdp16 ∨ (∃ cap, i = .rdp cap) ∨ (∃ cap, i = .rds cap)) →
    (tagged s.cfg d.chunk → exec i s = exec i { s.afterWait d with rxpos := 1, readFailed := false }) ∧
    (¬ tagged s.cfg d.chunk →
      exec i s = .next (({ s.afterWait d with readFailed := true } : State).failed .badIndicator))

/-- 41 R122: a failure of RDB ends RDP and RDS in the middle of a parameter: what was stored stays, no further
byte is stored and no terminator is written. The chunk is not tagged IND_CONTINUES; or the continuation does not
come (silent environment; NOW at the end is log 8's choice); or the chunk that comes is not tagged (the turns
before it count the model's atomic steps, log 16). And a failure at the length byte ends RDP, RDP16 and RDS as it
ends RDB. -/
def Obligations.ReadFailureEndsTheParameterReader : Prop :=
  (∀ (s : State) (cap : Half) (len : Byte), s.alone → s.rxbuf[s.rxpos.toNat]? = some len →
    32 < s.rxpos.toNat + 1 + len.toNat →
    ∃ out,
      (s.rxbuf[0] ≠ s.cfg.indContinues →
        exec (.rdp cap) s = .next (({ s with
          rxpos := 32, l := len.setWidth 16, i := BitVec.ofNat 16 (31 - s.rxpos.toNat), cap := cap,
          out := out } : State).failed .noContinuation) ∧
        exec (.rds cap) s = .next (({ s with
          rxpos := 32, l := len.setWidth 16, i := BitVec.ofNat 16 (31 - s.rxpos.toNat), cap := cap,
          out := out } : State).failed .noContinuation)) ∧
      (s.rxbuf[0] = s.cfg.indContinues →
        exec (.rdp cap) s = .next (({ s.afterTimeout with
          rxpos := 32, l := len.setWidth 16, i := BitVec.ofNat 16 (31 - s.rxpos.toNat), cap := cap,
          out := out } : State).failed .rxTimeout) ∧
        exec (.rds cap) s = .next (({ s.afterTimeout with
          rxpos := 32, l := len.setWidth 16, i := BitVec.ofNat 16 (31 - s.rxpos.toNat), cap := cap,
          out := out } : State).failed .rxTimeout)) ∧
      ∀ k, Memory.read out k =
        if k < 31 - s.rxpos.toNat ∧ k < cap.toNat then s.rxbuf[s.rxpos.toNat + 1 + k]?
        else Memory.read s.out k) ∧
  (∀ (s : State) (cap : Half) (len : Byte) (d : Delivery), s.fg = .idle → s.held = [] → s.irqOff = false →
    s.rxbuf[s.rxpos.toNat]? = some len → s.rxbuf[0] = s.cfg.indContinues →
    32 < s.rxpos.toNat + 1 + len.toNat → s.env = deliveryAfter (5 + 4 * (31 - s.rxpos.toNat)) d →
    d.inTime s.cfg → ¬ tagged s.cfg d.chunk →
    ∃ out,
      exec (.rdp cap) s = .next (({ s.afterWait d with
        rxpos := 32, l := len.setWidth 16, i := BitVec.ofNat 16 (31 - s.rxpos.toNat), cap := cap,
        readFailed := true, out := out } : State).failed .badIndicator) ∧
      exec (.rds cap) s = .next (({ s.afterWait d with
        rxpos := 32, l := len.setWidth 16, i := BitVec.ofNat 16 (31 - s.rxpos.toNat), cap := cap,
        readFailed := true, out := out } : State).failed .badIndicator) ∧
      ∀ k, Memory.read out k =
        if k < 31 - s.rxpos.toNat ∧ k < cap.toNat then s.rxbuf[s.rxpos.toNat + 1 + k]?
        else Memory.read s.out k) ∧
  ∀ (s : State) (cap : Half), s.alone → 32 ≤ s.rxpos.toNat →
    exec (.rdp cap) s = exec .rdb s ∧ exec .rdp16 s = exec .rdb s ∧ exec (.rds cap) s = exec .rdb s

/-- 41 R118: RDP16 delivers the two data bytes in wire order when the length byte is 2, inside a chunk and across
a boundary, and fails with only the length byte consumed when it is not 2. Where a data byte cannot be read, it
fails, and OUT[0] is written exactly when the failure is at Q4: the chunk is not tagged IND_CONTINUES; or the
continuation does not come (silent environment; NOW at the end is log 8's choice); or the chunk that comes is not
tagged. The turns before a delivery count the model's atomic steps (log 16). -/
def Obligations.Rdp16ReadsExactlyTwoBytes : Prop :=
  (∀ (s : State) (len : Byte), s.alone → s.rxbuf[s.rxpos.toNat]? = some len →
    (len = 2 → ∀ b0 b1 : Byte, s.rxbuf[s.rxpos.toNat + 1]? = some b0 → s.rxbuf[s.rxpos.toNat + 2]? = some b1 →
      ∃ out, exec .rdp16 s = .next (({ s with
          rxpos := BitVec.ofNat 6 (s.rxpos.toNat + 3), out := out } : State).finished 0) ∧
        (∀ k, Memory.read out k =
          if k = 0 then some b0 else if k = 1 then some b1 else Memory.read s.out k) ∧
        param16Value s.cfg b0 b1 = if s.cfg.p16BigEndian then b0 ++ b1 else b1 ++ b0) ∧
    (len = 2 → 30 ≤ s.rxpos.toNat →
      ∃ out, exec .rdp16 s = .next (
          if s.rxbuf[0] = s.cfg.indContinues then
            ({ s.afterTimeout with rxpos := 32, out := out } : State).failed .rxTimeout
          else ({ s with rxpos := 32, out := out } : State).failed .noContinuation) ∧
        ∀ k, Memory.read out k = if k = 0 ∧ s.rxpos.toNat = 30 then s.rxbuf[31]? else Memory.read s.out k) ∧
    (len ≠ 2 → exec .rdp16 s = .next (({ s with rxpos := s.rxpos + 1 } : State).failed .badLength))) ∧
  ∀ (s : State) (d : Delivery), s.fg = .idle → s.held = [] → s.irqOff = false →
    s.rxbuf[s.rxpos.toNat]? = some 2 → 30 ≤ s.rxpos.toNat → s.rxbuf[0] = s.cfg.indContinues →
    s.env = deliveryAfter (5 + 4 * (31 - s.rxpos.toNat)) d → d.inTime s.cfg →
    (tagged s.cfg d.chunk →
      ∃ out, exec .rdp16 s = .next (({ s.afterWait d with
          rxpos := BitVec.ofNat 6 (s.rxpos.toNat - 28), readFailed := false, out := out } : State).finished 0) ∧
        ∀ k, Memory.read out k =
          if k = 0 then if s.rxpos.toNat = 30 then s.rxbuf[31]? else some d.chunk[1]
          else if k = 1 then if s.rxpos.toNat = 30 then some d.chunk[1] else some d.chunk[2]
          else Memory.read s.out k) ∧
    (¬ tagged s.cfg d.chunk →
      ∃ out, exec .rdp16 s = .next (({ s.afterWait d with
          rxpos := 32, readFailed := true, out := out } : State).failed .badIndicator) ∧
        ∀ k, Memory.read out k = if k = 0 ∧ s.rxpos.toNat = 30 then s.rxbuf[31]? else Memory.read s.out k)

/-- 41 R120, inside a chunk: RDS stores like RDP and then the terminator at index min(L, CAP), which it
returns. -/
def Obligations.RdsStoresAStringWithItsTerminator : Prop :=
  ∀ (s : State) (cap : Half) (len : Byte), s.alone → s.rxbuf[s.rxpos.toNat]? = some len →
    s.rxpos.toNat + 1 + len.toNat ≤ 32 →
    ∃ out, exec (.rds cap) s = .next (({ s with
        rxpos := BitVec.ofNat 6 (s.rxpos.toNat + 1 + len.toNat), l := len.setWidth 16,
        i := len.setWidth 16, cap := cap, out := out } : State).finished
          (if len.toNat ≤ cap.toNat then len.setWidth 16 else cap)) ∧
      ∀ k, Memory.read out k =
        if k < len.toNat ∧ k < cap.toNat then s.rxbuf[s.rxpos.toNat + 1 + k]?
        else if k = min len.toNat cap.toNat then some 0 else Memory.read s.out k

/-- 41 R106: the chunks of a message, the first accepted by RXACC and each further one delivered during the
wait of the RDB at the boundary before it, are read as exactly their payload bytes in order, and the next RDB
fails with NO_CONTINUATION. -/
def Obligations.ReaderReassemblesTheMessage : Prop :=
  ∀ (s : State) (c0 : Chunk) (ds : List Delivery), s.alone → s.cfg.valid = true → s.irqOff = false →
    s.dataReceived = true → s.xbuf = c0 →
    (∀ d ∈ ds, d.inTime s.cfg) →
    (∀ ch ∈ (c0 :: ds.map Delivery.chunk).dropLast, ch[0] = s.cfg.indContinues) →
    (∀ ch ∈ (c0 :: ds.map Delivery.chunk).getLast?, ch[0] = s.cfg.indFinished) →
    ∃ a r0 b rs t, exec .rxacc s = .next a ∧ a.res = 0 ∧
      readMany 31 a = some (r0, b) ∧ readContinuations ds b = some (rs, t) ∧
      r0 ++ rs = ((c0 :: ds.map Delivery.chunk).flatMap payload).map (fun v : Byte => v.setWidth 16) ∧
      exec .rdb t = .next (t.failed .noContinuation)

/-- 41 R124: the transitions of the receive side's state machine, the environment silent but for the delivery a
transition names ('after a failure' as log 22 reads it; RX_WAIT is looked at by a pause at RDB's B7). -/
def Obligations.ReceivePhasesFollowTheTable : Prop :=
  (∀ s : State, s.alone → s.cfg.valid = true →
    (∀ c ref, s.irqOff = false → (s.applyMove (.rx c ref)).rxAvail) ∧
    (s.rxAvail → ∃ t, exec .rxacc s = .next t ∧ ¬ t.rxAvail ∧
      (tagged s.cfg s.xbuf → t.rxDrain ∧ t.rxpos = 1 ∧ ¬ t.rxDead) ∧ (¬ tagged s.cfg s.xbuf → t.rxDead)) ∧
    (∃ t, exec .rxdone s = .next t ∧ t.rxIdle ∧ t.readClosed ∧ ¬ t.rxDead) ∧
    (s.rxDrain → s.rxpos.toNat < 32 → ∃ t, exec .rdb s = .next t ∧ t.rxDrain) ∧
    (s.rxDrain → s.rxpos.toNat = 32 → s.rxbuf[0] = s.cfg.indFinished →
      ∃ t, exec .rdb s = .next t ∧ t.rxDrain ∧ t.res = 0xFFFF) ∧
    (s.rxDrain → s.rxpos.toNat = 32 → s.rxbuf[0] = s.cfg.indContinues →
      ∃ t u, exec .rdb { s with env := List.replicate 6 ⟨[], false⟩ ++ [⟨[], true⟩] } = .next t ∧ t.rxWait ∧
        step t = .next u ∧ u.rxDead ∧ u.rxstate = s.cfg.rxReady ∧ u.res = 0xFFFF) ∧
    (s.rxDead → ∃ t, exec .rdb s = .next t ∧ t.rxDead ∧ t.res = 0xFFFF)) ∧
  ∀ (s : State) (r : Half) (c : Chunk) (ref : Nat), s.cfg.valid = true → s.rxWait →
    s.fg = .running .rdb r .b7 [] → s.rxpos = 32 → s.held = [] → s.irqOff = false →
    s.env = [⟨[.rx c ref], false⟩] →
    ∃ t, step s = .next t ∧ (tagged s.cfg c → t.rxDrain ∧ t.rxpos = 2) ∧ (¬ tagged s.cfg c → t.rxDead)

/-! ## Transmit family (spec 42) -/

/-- 42 R131, the environment silent: RSTART shows PREPARING, discards what the buffer held, and writes the
three header bytes. -/
def Obligations.RstartWritesTheHeader : Prop :=
  ∀ (s : State) (cmd n : Byte), s.alone →
    exec (.rstart cmd n) s = .next (({ s with
      txstate := s.cfg.txPreparing, txpos := 3,
      txbuf := ((s.txbuf.set 1 s.cfg.startCmd).set 2 (cmd ||| 0x80)).set 3 n } : State).finished 0)

/-- 42 R132, the environment silent: WRB puts the byte at index 1 + TXPOS, after a flush tagged IND_CONTINUES
when the buffer is full. The value of NOW after a flush that waits in silence is the model's choice (log 8). -/
def Obligations.WrbAppendsTheByte : Prop :=
  ∀ (s : State) (d : Byte), s.alone →
    exec (.wrb d) s = .next ((s.appended d).finished 0) ∧
    (s.txpos.toNat < 31 → exec (.wrb d) s = .next (({ s with
      txbuf := s.txbuf.setIfInBounds (1 + s.txpos.toNat) d, txpos := s.txpos + 1 } : State).finished 0)) ∧
    (31 ≤ s.txpos.toNat → ∃ t, exec (.wrb d) s = .next t ∧ t.txpos = 1 ∧ t.txbuf[1] = d ∧
      t.txLog = s.txLog ++ [(s.txbuf.set 0 s.cfg.indContinues).toList])

/-- 42 R134, the environment silent: FLUSH does nothing but write IND when the buffer is empty; else it hands
off TXBUF[0 .. TXPOS] with the indicator in byte 0, clears DATA_SENT, shows READY and empties the buffer. The
value of NOW after a wait in silence is the model's choice (log 8). -/
def Obligations.FlushHandsOffTheBuffer : Prop :=
  ∀ (s : State) (ind : Byte), s.alone →
    exec (.flush ind) s = .next ((s.flushed ind).finished 0)

/-- 42 R134: FLUSH waits for the acknowledgement. A chunk consumed before TX_TIMEOUT_MS have passed since its
step F2 ends the wait, and no acknowledgement timeout is counted. -/
def Obligations.FlushWaitsForTheAcknowledgement : Prop :=
  ∀ (s : State) (ind : Byte) (ms : List Millis), s.fg = .idle → s.held = [] → s.irqOff = false →
    s.dataSent = false → s.txpos ≠ 0 → s.env = acknowledgement ms →
    totalMillis (ms.drop 2) < s.cfg.txTimeoutMs.toNat →
    exec (.flush ind) s = .next (({ s with
      ind := ind, t0 := s.later (ms.take 2), now := s.later ms, env := [],
      txbuf := s.txbuf.set 0 ind,
      txout := (s.txbuf.set 0 ind).toList.take (s.txpos.toNat + 1),
      txLog := s.txLog ++ [(s.txbuf.set 0 ind).toList.take (s.txpos.toNat + 1)],
      txstate := s.cfg.txReady, txpos := 0 } : State).finished 0)

/-- 42 R148: the poll that finds the timeout passed goes on to F4 exactly as if DATA_SENT had been set, but for
the ghost count; under any schedule without a reset or a pause, FLUSH of a non-empty buffer returns 0 with the
chunk handed off over the previous one, whether or not its wait times out; and with the environment silent and
DATA_SENT = 0 it ends as it would with DATA_SENT = 1, but for the time, which is not stated, and the ghost
count. -/
def Obligations.AcknowledgementTimeoutGoesOn : Prop :=
  (∀ (s : State) (op : Instr) (r : Half) (back : List Label), s.fg = .running op r .f3 back →
    s.dataSent = false → s.cfg.txTimeoutMs.toNat ≤ (s.now - s.t0).toNat →
    ∃ t, ({ s with dataSent := true } : State).foreground = .next t ∧ t.fg = .running op 0 .f4 back ∧
      s.foreground = .next { t with dataSent := false, ackTimeouts := s.ackTimeouts + 1 }) ∧
  (∀ (s : State) (ind : Byte), s.fg = .idle → s.noReset = true → s.noPause = true → s.txpos ≠ 0 →
    ∃ t, exec (.flush ind) s = .next t ∧ t.fg = .idle ∧ t.res = 0 ∧ t.cause = none ∧ t.txpos = 0 ∧
      t.txbuf = s.txbuf.set 0 ind ∧
      t.txout = (s.txbuf.set 0 ind).toList.take (s.txpos.toNat + 1) ∧
      t.txLog = s.txLog ++ [(s.txbuf.set 0 ind).toList.take (s.txpos.toNat + 1)] ∧
      (t.ackTimeouts = s.ackTimeouts ∨ t.ackTimeouts = s.ackTimeouts + 1) ∧
      ((t.dataSent = false ∧ t.txstate = s.cfg.txReady) ∨ (t.dataSent = true ∧ t.txstate = s.cfg.txNodata))) ∧
  ∀ (s : State) (ind : Byte), s.alone → s.dataSent = false → s.txpos ≠ 0 →
    ∃ t nw, exec (.flush ind) { s with dataSent := true } = .next t ∧
      exec (.flush ind) s = .next { t with now := nw, ackTimeouts := s.ackTimeouts + 1 } ∧
      t.res = 0 ∧ t.cause = none

/-- 42 R136, the environment silent: WRP appends the length byte and the data bytes, each by WRB; for every
length, and whatever the caller supplied (missing data bytes are free values, log 12). The model's choices are
the value of NOW after a flush that waits in silence (log 8) and I = 0 after a loop of no turns (log 25). -/
def Obligations.WrpAppendsTheParameter : Prop :=
  ∀ (s : State) (len : Byte), s.alone →
    exec (.wrp len) s = .next (({ s.appendedAll (len :: s.pinBytes len.toNat) with
      i := BitVec.ofNat 16 (len.toNat - 1),
      freeCount := s.freeCount + (len.toNat - s.inBuf.length) } : State).finished 0)

/-- 42 R138, the environment silent: WRP16 appends the big-endian length and the data bytes, each by WRB; for
every length, and whatever the caller supplied (missing data bytes are free values, log 12). The model's choices
are the value of NOW after a flush that waits in silence (log 8) and I = 0 after a loop of no turns (log 25). -/
def Obligations.Wrp16AppendsTheParameter : Prop :=
  ∀ (s : State) (len : Half), s.alone →
    exec (.wrp16 len) s = .next (({ s.appendedAll
        (len.extractLsb' 8 8 :: len.extractLsb' 0 8 :: s.pinBytes len.toNat) with
      i := BitVec.ofNat 16 (len.toNat - 1),
      freeCount := s.freeCount + (len.toNat - s.inBuf.length) } : State).finished 0)

/-- 42 R140, the environment silent: REND appends END_CMD and flushes with IND_FINISHED; it always sends
something, and leaves the buffer empty, READY shown and DATA_SENT = 0. The value of NOW after a flush that waits
in silence is the model's choice (log 8). -/
def Obligations.RendSendsTheLastChunk : Prop :=
  ∀ s : State, s.alone →
    ∃ t, exec .rend s = .next t ∧
      t = ((s.appended s.cfg.endCmd).flushed s.cfg.indFinished).finished 0 ∧
      t.txpos = 0 ∧ t.txstate = s.cfg.txReady ∧ t.dataSent = false ∧
      t.txLog.length = (s.appended s.cfg.endCmd).txLog.length + 1

/-- 42 R142, under any schedule without a reset or a pause: after RSTART, 28 WRB fill the buffer without a
hand-off, and the 29th hands off 32 bytes tagged IND_CONTINUES and leaves TXPOS = 1. -/
def Obligations.TwentyNinthByteAfterRstartFlushes : Prop :=
  ∀ (s : State) (cmd n d : Byte) (ds : List Byte), s.fg = .idle → s.noReset = true → s.noPause = true →
    ds.length = 28 →
    ∃ t u, runCalls ((.rstart cmd n, []) :: ds.map (fun b => (.wrb b, []))) s = some t ∧
      t.txpos = 31 ∧ t.txLog = s.txLog ∧ t.txout = s.txout ∧
      runCalls [(.wrb d, [])] t = some u ∧ u.txpos = 1 ∧ u.txbuf[1] = d ∧
      u.txLog = s.txLog ++ [s.cfg.indContinues :: s.cfg.startCmd :: (cmd ||| 0x80) :: n :: ds] ∧
      u.txout.length = 32

/-- 42 R144, under any schedule without a reset or a pause: a reply composed by RSTART, parameter operations
and REND is handed off as exactly the chunks of 30 R67, in order, whether or not acknowledgement waits time
out. -/
def Obligations.ReplyIsHandedOffAsItsChunkStream : Prop :=
  ∀ (s : State) (cmd n : Byte) (ps : List Param), s.fg = .idle → s.noReset = true → s.noPause = true →
    (∀ p ∈ ps, p.fits = true) →
    ∃ t, runCalls (replyCalls cmd n ps) s = some t ∧ t.fg = .idle ∧ t.txpos = 0 ∧
      t.txLog = s.txLog ++ chunkStream s.cfg (replyBytes s.cfg cmd n ps)

/-- 42 R150: the chunks of a reply, padded and delivered to a receiving engine, are read back as the reply's
message, followed by the pad bytes of its last chunk. -/
def Obligations.ReplyReadsBackAsItsMessage : Prop :=
  ∀ (s u : State) (cmd n : Byte) (ps : List Param) (c0 : Chunk) (ds : List Delivery),
    s.fg = .idle → s.noReset = true → s.noPause = true → (∀ p ∈ ps, p.fits = true) →
    u.cfg = s.cfg → u.alone → s.cfg.valid = true → u.irqOff = false → u.dataReceived = true → u.xbuf = c0 →
    (∀ d ∈ ds, d.inTime s.cfg) →
    ∃ t, runCalls (replyCalls cmd n ps) s = some t ∧
      (t.txLog.map padded = s.txLog.map padded ++ (c0 :: ds.map Delivery.chunk) →
      ∃ a r0 b rs v k, exec .rxacc u = .next a ∧
        readMany 31 a = some (r0, b) ∧ readContinuations ds b = some (rs, v) ∧
        r0 ++ rs = (replyBytes s.cfg cmd n ps ++ List.replicate k 0).map (fun x : Byte => x.setWidth 16))

/-- 42 R152, the environment silent: the transitions of the transmit side's state machine (TX_COMPOSE as log 26
reads it; TX_WAITACK is looked at by a pause at FLUSH's F3). -/
def Obligations.TransmitPhasesFollowTheTable : Prop :=
  ∀ s : State, s.alone → s.cfg.valid = true →
    (∀ cmd n, ∃ t, exec (.rstart cmd n) s = .next t ∧ t.txCompose) ∧
    (s.txpos ≠ 0 → ∀ ind, ∃ t, exec (.flush ind) s = .next t ∧ t.txOffered) ∧
    (∃ t, exec .rend s = .next t ∧ t.txOffered) ∧
    (s.irqOff = false → (s.applyMove .tx).txIdle) ∧
    (s.txpos ≠ 0 → s.dataSent = false → ∀ ind,
      ∃ t, exec (.flush ind) { s with env := [⟨[], false⟩, ⟨[], false⟩, ⟨[], true⟩] } = .next t ∧
        t.txWaitAck ∧
        ∃ u, step t = .next u ∧ u.txOffered)

/-! ## Notifications, suppression, results (spec 30 R74, 60, 70) -/

/-- 60 R161, R162: a step in whose turn a notification comes does the writes of its handler and nothing
else. -/
def Obligations.NotificationsDoTheirHandlersWrites : Prop :=
  ∀ (s : State) (p : Bool) (rest : List Turn), s.fg = .idle → s.reqs = [] → s.held = [] → s.irqOff = false →
    (∀ c ref, s.env = ⟨[.rx c ref], p⟩ :: rest →
      step s = .next { s with
        xbuf := c, rxref := ref % 2 ^ s.cfg.refW, rxstate := s.cfg.rxBusy, dataReceived := true,
        uncopied := true, env := rest }) ∧
    (s.env = ⟨[.tx], p⟩ :: rest →
      step s = .next { s with dataSent := true, txstate := s.cfg.txNodata, env := rest })

/-- 60 R163: in a turn under suppression no notification happens, and what would have happened is held back in
order, the time alone going on; in a turn without suppression everything held back happens, one after the other,
so that the last delivery is the one that stays (log 9). -/
def Obligations.SuppressionDelaysNotifications : Prop :=
  ∀ s : State, s.noResetInTurn = true →
    (s.irqOff = true → ∃ nw, s.environment = { s with
      now := nw, env := s.env.tail,
      held := (s.held ++ s.turnMoves).filter (fun m => match m with
        | .rx _ _ => true
        | .tx => true
        | .tick _ => false
        | .rst => false) }) ∧
    (s.irqOff = false → s.environment.held = [] ∧
      (∀ before c ref after, s.held ++ s.turnMoves = before ++ Move.rx c ref :: after →
        (∀ c' ref', Move.rx c' ref' ∉ after) →
        s.environment.xbuf = c ∧ s.environment.rxref = ref % 2 ^ s.cfg.refW ∧
        s.environment.dataReceived = true ∧ s.environment.rxstate = s.cfg.rxBusy) ∧
      ((∀ c ref, Move.rx c ref ∉ s.held ++ s.turnMoves) →
        s.environment.xbuf = s.xbuf ∧ s.environment.rxref = s.rxref ∧
        s.environment.dataReceived = s.dataReceived ∧ s.environment.rxstate = s.rxstate) ∧
      (Move.tx ∉ s.held ++ s.turnMoves →
        s.environment.dataSent = s.dataSent ∧ s.environment.txstate = s.txstate) ∧
      (Move.tx ∈ s.held ++ s.turnMoves →
        s.environment.dataSent = true ∧ s.environment.txstate = s.cfg.txNodata))

/-- 60 R165: the two notifications raised together give the same state in either order. -/
def Obligations.NotificationsCommute : Prop :=
  ∀ (s : State) (c : Chunk) (ref : Nat), s.irqOff = false →
    (s.applyMove (.rx c ref)).applyMove .tx = (s.applyMove .tx).applyMove (.rx c ref)

/-- 70 R218, under any schedule without a reset or a pause: with notifications suppressed, RDB at a
continuation boundary fails with RX_TIMEOUT, and FLUSH with DATA_SENT = 0 goes on as on an acknowledgement
timeout. -/
def Obligations.WaitingUnderSuppressionTimesOut : Prop :=
  ∀ s : State, s.fg = .idle → s.irqOff = true → s.noReset = true → s.noPause = true →
    (32 ≤ s.rxpos.toNat → s.rxbuf[0] = s.cfg.indContinues →
      ∃ t, exec .rdb s = .next t ∧ t.fg = .idle ∧ t.res = 0xFFFF ∧ t.cause = some .rxTimeout ∧
        t.xbuf = s.xbuf) ∧
    (s.txpos ≠ 0 → s.dataSent = false → ∀ ind,
      ∃ t, exec (.flush ind) s = .next t ∧ t.fg = .idle ∧ t.res = 0 ∧
        t.ackTimeouts = s.ackTimeouts + 1 ∧ t.txpos = 0 ∧
        t.txLog = s.txLog ++ [(s.txbuf.set 0 ind).toList.take (s.txpos.toNat + 1)])

/-- 30 R74, under any schedule without a reset or a pause: every operation ends with a result; it is -1 exactly
when a cause is recorded, else 0 to 255; and the operations that cannot fail return 0. -/
def Obligations.ResultsAreBytesCountsOrMinusOne : Prop :=
  ∀ (i : Instr) (s : State), s.fg = .idle → s.noReset = true → s.noPause = true →
    ∃ t, exec i s = .next t ∧ t.fg = .idle ∧
      (t.res = 0xFFFF ↔ t.cause.isSome = true) ∧ (t.cause = none → t.res.toNat ≤ 255) ∧
      ((i ≠ .reserved0 ∧ i ≠ .rxacc ∧ i ≠ .rdb ∧ i ≠ .rdp16 ∧ (∀ cap, i ≠ .rdp cap) ∧ (∀ cap, i ≠ .rds cap)) →
        t.res = 0 ∧ t.cause = none)

/-! ## Frames -/

/-- Under any schedule without a reset: RXACC, RDB, RXDONE, RDP, RDP16, RDS, SETRX and the reserved code leave
the transmit side, the suppress bit and the caller's IN as they were, and every byte of OUT outside the
parameter stored: none for the operations that store nothing, at CAP and above for RDP, above CAP for RDS, from
2 on for RDP16. -/
def Obligations.ReceiveOperationsLeaveTheTransmitSide : Prop :=
  ∀ (i : Instr) (s t : State), s.fg = .idle → s.noReset = true → exec i s = .next t →
    (i = .rxacc ∨ i = .rdb ∨ i = .rxdone ∨ i = .rdp16 ∨ (∃ cap, i = .rdp cap) ∨ (∃ cap, i = .rds cap) ∨
      (∃ c, i = .setrx c) ∨ i = .reserved0) →
    t.txpos = s.txpos ∧ t.txout = s.txout ∧ t.txLog = s.txLog ∧ t.ackTimeouts = s.ackTimeouts ∧
    t.ind = s.ind ∧ t.irqOff = s.irqOff ∧ t.cfg = s.cfg ∧ t.freeCount = s.freeCount ∧ t.reqs = s.reqs ∧
    (∀ k, t.byteAt .txbuf k = s.byteAt .txbuf k) ∧ (∀ k, t.byteAt .inBuf k = s.byteAt .inBuf k) ∧
    (∀ k, (∀ cap, i = .rdp cap → cap.toNat ≤ k) → (∀ cap, i = .rds cap → cap.toNat < k) →
      (i = .rdp16 → 2 ≤ k) → t.byteAt .out k = s.byteAt .out k)

/-- Under any schedule without a reset: RSTART, WRB, WRP, WRP16, REND, FLUSH, SETTX and IMASK leave the receive
side's working buffer and cursor, and OUT and IN, as they were; all but IMASK leave the suppress bit; and
SETTX and IMASK leave TXBUF, the cursor and TXOUT too. -/
def Obligations.TransmitOperationsLeaveTheReceiveSide : Prop :=
  ∀ (i : Instr) (s t : State), s.fg = .idle → s.noReset = true → exec i s = .next t →
    (i = .rend ∨ (∃ cmd n, i = .rstart cmd n) ∨ (∃ d, i = .wrb d) ∨ (∃ len, i = .wrp len) ∨
      (∃ len, i = .wrp16 len) ∨ (∃ ind, i = .flush ind) ∨ (∃ c, i = .settx c) ∨ (∃ m, i = .imask m)) →
    t.rxpos = s.rxpos ∧ t.l = s.l ∧ t.cap = s.cap ∧ t.cfg = s.cfg ∧ t.reqs = s.reqs ∧
    (∀ k, t.byteAt .rxbuf k = s.byteAt .rxbuf k) ∧ (∀ k, t.byteAt .out k = s.byteAt .out k) ∧
    (∀ k, t.byteAt .inBuf k = s.byteAt .inBuf k) ∧
    ((∀ m, i ≠ .imask m) → t.irqOff = s.irqOff) ∧
    (((∃ c, i = .settx c) ∨ (∃ m, i = .imask m)) →
      (∀ k, t.byteAt .txbuf k = s.byteAt .txbuf k) ∧ t.txpos = s.txpos ∧ t.txout = s.txout)

/-- 20 R42: XBUF is read-only to the block: no atomic step of the foreground writes it, and with the environment
silent no operation changes it. -/
def Obligations.BlockNeverWritesXbuf : Prop :=
  (∀ s t : State, s.foreground = .next t → ∀ k, t.byteAt .xbuf k = s.byteAt .xbuf k) ∧
  ∀ (i : Instr) (s t : State), s.alone → exec i s = .next t →
    (∀ k, t.byteAt .xbuf k = s.byteAt .xbuf k) ∧ t.rxref = s.rxref

/-! ## The whole machine -/

/-- The invariant holds after reset, for every configuration that meets 00 R7, the default one among them. -/
def Obligations.ResetMeetsTheInvariant : Prop :=
  (∀ c : Config, c.valid = true → (State.ofConfig c).Inv) ∧ State.reset.Inv

/-- Every step keeps the invariant: the configuration meets 00 R7, the receive cursor is 1 to 32, RXREF fits
its width, TXOUT is no longer than a chunk and is the last hand-off, OUT is in its canonical form, and the
sequencer's labels are sound. -/
def Obligations.EveryStepKeepsTheInvariant : Prop :=
  ∀ s t : State, s.Inv → step s = .next t → t.Inv

/-- From every state that meets the invariant the step answers a next state: no access to a byte that does not
exist, and no refusal. -/
def Obligations.NoStepStopsUnderTheInvariant : Prop :=
  ∀ s : State, s.Inv → ∃ t, step s = .next t

/-- Every operation accepted by an idle sequencer ends, under every schedule without a pause: the bound on the
atomic steps of one operation is enough, and the sequencer is idle again. -/
def Obligations.EveryOperationEnds : Prop :=
  ∀ (i : Instr) (s : State), s.fg = .idle → s.noPause = true → ∃ t, exec i s = .next t ∧ t.fg = .idle

/-- 10 R25: no step changes a parameter. And the history of hand-offs only grows (log 18). -/
def Obligations.ParametersNeverChange : Prop :=
  ∀ s t : State, step s = .next t → t.cfg = s.cfg ∧ s.txLog <+: t.txLog

/-- 10 R27: no unspecified byte is ever observable. Two states that agree but for TXBUF outside the payload
bytes now in it, and, with the receive cursor at the boundary, RXBUF outside its indicator, stay so under every
operation and every schedule; in particular results, OUT, TXOUT and the hand-offs are the same. -/
def Obligations.UnspecifiedBytesAreNotObservable : Prop :=
  ∀ (i : Instr) (s u : State), s.fg = .idle → s.agree u →
    ∃ t v, exec i s = .next t ∧ exec i u = .next v ∧ t.agree v
end

