-- ==== Sys2Proof/Laws/State.lean ====
section
/-! SUPPORT. One lemma per field per named update of State, so that no later proof unfolds an update. -/

namespace Sys2Proof.Machine

open Sys2Proof

variable (s : State)

/-! ## State.storeOut -/

@[simp] theorem State.storeOut_cfg (k : Nat) (b : Byte) : (s.storeOut k b).cfg = s.cfg := rfl
@[simp] theorem State.storeOut_rxstate (k : Nat) (b : Byte) : (s.storeOut k b).rxstate = s.rxstate := rfl
@[simp] theorem State.storeOut_txstate (k : Nat) (b : Byte) : (s.storeOut k b).txstate = s.txstate := rfl
@[simp] theorem State.storeOut_dataReceived (k : Nat) (b : Byte) : (s.storeOut k b).dataReceived = s.dataReceived := rfl
@[simp] theorem State.storeOut_dataSent (k : Nat) (b : Byte) : (s.storeOut k b).dataSent = s.dataSent := rfl
@[simp] theorem State.storeOut_rxref (k : Nat) (b : Byte) : (s.storeOut k b).rxref = s.rxref := rfl
@[simp] theorem State.storeOut_rxbuf (k : Nat) (b : Byte) : (s.storeOut k b).rxbuf = s.rxbuf := rfl
@[simp] theorem State.storeOut_rxpos (k : Nat) (b : Byte) : (s.storeOut k b).rxpos = s.rxpos := rfl
@[simp] theorem State.storeOut_txbuf (k : Nat) (b : Byte) : (s.storeOut k b).txbuf = s.txbuf := rfl
@[simp] theorem State.storeOut_txpos (k : Nat) (b : Byte) : (s.storeOut k b).txpos = s.txpos := rfl
@[simp] theorem State.storeOut_irqOff (k : Nat) (b : Byte) : (s.storeOut k b).irqOff = s.irqOff := rfl
@[simp] theorem State.storeOut_fg (k : Nat) (b : Byte) : (s.storeOut k b).fg = s.fg := rfl
@[simp] theorem State.storeOut_t0 (k : Nat) (b : Byte) : (s.storeOut k b).t0 = s.t0 := rfl
@[simp] theorem State.storeOut_l (k : Nat) (b : Byte) : (s.storeOut k b).l = s.l := rfl
@[simp] theorem State.storeOut_i (k : Nat) (b : Byte) : (s.storeOut k b).i = s.i := rfl
@[simp] theorem State.storeOut_cap (k : Nat) (b : Byte) : (s.storeOut k b).cap = s.cap := rfl
@[simp] theorem State.storeOut_ind (k : Nat) (b : Byte) : (s.storeOut k b).ind = s.ind := rfl
@[simp] theorem State.storeOut_res (k : Nat) (b : Byte) : (s.storeOut k b).res = s.res := rfl
@[simp] theorem State.storeOut_xbuf (k : Nat) (b : Byte) : (s.storeOut k b).xbuf = s.xbuf := rfl
@[simp] theorem State.storeOut_txout (k : Nat) (b : Byte) : (s.storeOut k b).txout = s.txout := rfl
@[simp] theorem State.storeOut_now (k : Nat) (b : Byte) : (s.storeOut k b).now = s.now := rfl
@[simp] theorem State.storeOut_inBuf (k : Nat) (b : Byte) : (s.storeOut k b).inBuf = s.inBuf := rfl
@[simp] theorem State.storeOut_out (k : Nat) (b : Byte) : (s.storeOut k b).out = s.out.write k b := rfl
@[simp] theorem State.storeOut_reqs (k : Nat) (b : Byte) : (s.storeOut k b).reqs = s.reqs := rfl
@[simp] theorem State.storeOut_env (k : Nat) (b : Byte) : (s.storeOut k b).env = s.env := rfl
@[simp] theorem State.storeOut_held (k : Nat) (b : Byte) : (s.storeOut k b).held = s.held := rfl
@[simp] theorem State.storeOut_freeCount (k : Nat) (b : Byte) : (s.storeOut k b).freeCount = s.freeCount := rfl
@[simp] theorem State.storeOut_cause (k : Nat) (b : Byte) : (s.storeOut k b).cause = s.cause := rfl
@[simp] theorem State.storeOut_ackTimeouts (k : Nat) (b : Byte) : (s.storeOut k b).ackTimeouts = s.ackTimeouts := rfl
@[simp] theorem State.storeOut_txLog (k : Nat) (b : Byte) : (s.storeOut k b).txLog = s.txLog := rfl
@[simp] theorem State.storeOut_uncopied (k : Nat) (b : Byte) : (s.storeOut k b).uncopied = s.uncopied := rfl
@[simp] theorem State.storeOut_readFailed (k : Nat) (b : Byte) : (s.storeOut k b).readFailed = s.readFailed := rfl

/-! ## State.goTo -/

@[simp] theorem State.goTo_cfg (op : Instr) (next : Label) (back : List Label) : (s.goTo op next back).cfg = s.cfg := rfl
@[simp] theorem State.goTo_rxstate (op : Instr) (next : Label) (back : List Label) : (s.goTo op next back).rxstate = s.rxstate := rfl
@[simp] theorem State.goTo_txstate (op : Instr) (next : Label) (back : List Label) : (s.goTo op next back).txstate = s.txstate := rfl
@[simp] theorem State.goTo_dataReceived (op : Instr) (next : Label) (back : List Label) : (s.goTo op next back).dataReceived = s.dataReceived := rfl
@[simp] theorem State.goTo_dataSent (op : Instr) (next : Label) (back : List Label) : (s.goTo op next back).dataSent = s.dataSent := rfl
@[simp] theorem State.goTo_rxref (op : Instr) (next : Label) (back : List Label) : (s.goTo op next back).rxref = s.rxref := rfl
@[simp] theorem State.goTo_rxbuf (op : Instr) (next : Label) (back : List Label) : (s.goTo op next back).rxbuf = s.rxbuf := rfl
@[simp] theorem State.goTo_rxpos (op : Instr) (next : Label) (back : List Label) : (s.goTo op next back).rxpos = s.rxpos := rfl
@[simp] theorem State.goTo_txbuf (op : Instr) (next : Label) (back : List Label) : (s.goTo op next back).txbuf = s.txbuf := rfl
@[simp] theorem State.goTo_txpos (op : Instr) (next : Label) (back : List Label) : (s.goTo op next back).txpos = s.txpos := rfl
@[simp] theorem State.goTo_irqOff (op : Instr) (next : Label) (back : List Label) : (s.goTo op next back).irqOff = s.irqOff := rfl
@[simp] theorem State.goTo_fg (op : Instr) (next : Label) (back : List Label) : (s.goTo op next back).fg = .running op 0 next back := rfl
@[simp] theorem State.goTo_t0 (op : Instr) (next : Label) (back : List Label) : (s.goTo op next back).t0 = s.t0 := rfl
@[simp] theorem State.goTo_l (op : Instr) (next : Label) (back : List Label) : (s.goTo op next back).l = s.l := rfl
@[simp] theorem State.goTo_i (op : Instr) (next : Label) (back : List Label) : (s.goTo op next back).i = s.i := rfl
@[simp] theorem State.goTo_cap (op : Instr) (next : Label) (back : List Label) : (s.goTo op next back).cap = s.cap := rfl
@[simp] theorem State.goTo_ind (op : Instr) (next : Label) (back : List Label) : (s.goTo op next back).ind = s.ind := rfl
@[simp] theorem State.goTo_res (op : Instr) (next : Label) (back : List Label) : (s.goTo op next back).res = s.res := rfl
@[simp] theorem State.goTo_xbuf (op : Instr) (next : Label) (back : List Label) : (s.goTo op next back).xbuf = s.xbuf := rfl
@[simp] theorem State.goTo_txout (op : Instr) (next : Label) (back : List Label) : (s.goTo op next back).txout = s.txout := rfl
@[simp] theorem State.goTo_now (op : Instr) (next : Label) (back : List Label) : (s.goTo op next back).now = s.now := rfl
@[simp] theorem State.goTo_inBuf (op : Instr) (next : Label) (back : List Label) : (s.goTo op next back).inBuf = s.inBuf := rfl
@[simp] theorem State.goTo_out (op : Instr) (next : Label) (back : List Label) : (s.goTo op next back).out = s.out := rfl
@[simp] theorem State.goTo_reqs (op : Instr) (next : Label) (back : List Label) : (s.goTo op next back).reqs = s.reqs := rfl
@[simp] theorem State.goTo_env (op : Instr) (next : Label) (back : List Label) : (s.goTo op next back).env = s.env := rfl
@[simp] theorem State.goTo_held (op : Instr) (next : Label) (back : List Label) : (s.goTo op next back).held = s.held := rfl
@[simp] theorem State.goTo_freeCount (op : Instr) (next : Label) (back : List Label) : (s.goTo op next back).freeCount = s.freeCount := rfl
@[simp] theorem State.goTo_cause (op : Instr) (next : Label) (back : List Label) : (s.goTo op next back).cause = s.cause := rfl
@[simp] theorem State.goTo_ackTimeouts (op : Instr) (next : Label) (back : List Label) : (s.goTo op next back).ackTimeouts = s.ackTimeouts := rfl
@[simp] theorem State.goTo_txLog (op : Instr) (next : Label) (back : List Label) : (s.goTo op next back).txLog = s.txLog := rfl
@[simp] theorem State.goTo_uncopied (op : Instr) (next : Label) (back : List Label) : (s.goTo op next back).uncopied = s.uncopied := rfl
@[simp] theorem State.goTo_readFailed (op : Instr) (next : Label) (back : List Label) : (s.goTo op next back).readFailed = s.readFailed := rfl

/-! ## State.appendDatum -/

@[simp] theorem State.appendDatum_cfg (op : Instr) (len : Half) (back : List Label) : (s.appendDatum op len back).cfg = s.cfg := rfl
@[simp] theorem State.appendDatum_rxstate (op : Instr) (len : Half) (back : List Label) : (s.appendDatum op len back).rxstate = s.rxstate := rfl
@[simp] theorem State.appendDatum_txstate (op : Instr) (len : Half) (back : List Label) : (s.appendDatum op len back).txstate = s.txstate := rfl
@[simp] theorem State.appendDatum_dataReceived (op : Instr) (len : Half) (back : List Label) : (s.appendDatum op len back).dataReceived = s.dataReceived := rfl
@[simp] theorem State.appendDatum_dataSent (op : Instr) (len : Half) (back : List Label) : (s.appendDatum op len back).dataSent = s.dataSent := rfl
@[simp] theorem State.appendDatum_rxref (op : Instr) (len : Half) (back : List Label) : (s.appendDatum op len back).rxref = s.rxref := rfl
@[simp] theorem State.appendDatum_rxbuf (op : Instr) (len : Half) (back : List Label) : (s.appendDatum op len back).rxbuf = s.rxbuf := rfl
@[simp] theorem State.appendDatum_rxpos (op : Instr) (len : Half) (back : List Label) : (s.appendDatum op len back).rxpos = s.rxpos := rfl
@[simp] theorem State.appendDatum_txbuf (op : Instr) (len : Half) (back : List Label) : (s.appendDatum op len back).txbuf = s.txbuf := rfl
@[simp] theorem State.appendDatum_txpos (op : Instr) (len : Half) (back : List Label) : (s.appendDatum op len back).txpos = s.txpos := rfl
@[simp] theorem State.appendDatum_irqOff (op : Instr) (len : Half) (back : List Label) : (s.appendDatum op len back).irqOff = s.irqOff := rfl
@[simp] theorem State.appendDatum_fg (op : Instr) (len : Half) (back : List Label) : (s.appendDatum op len back).fg = .running op 0 (.w1 s.dataByte) (.dataLoop len :: back) := rfl
@[simp] theorem State.appendDatum_t0 (op : Instr) (len : Half) (back : List Label) : (s.appendDatum op len back).t0 = s.t0 := rfl
@[simp] theorem State.appendDatum_l (op : Instr) (len : Half) (back : List Label) : (s.appendDatum op len back).l = s.l := rfl
@[simp] theorem State.appendDatum_i (op : Instr) (len : Half) (back : List Label) : (s.appendDatum op len back).i = s.i := rfl
@[simp] theorem State.appendDatum_cap (op : Instr) (len : Half) (back : List Label) : (s.appendDatum op len back).cap = s.cap := rfl
@[simp] theorem State.appendDatum_ind (op : Instr) (len : Half) (back : List Label) : (s.appendDatum op len back).ind = s.ind := rfl
@[simp] theorem State.appendDatum_res (op : Instr) (len : Half) (back : List Label) : (s.appendDatum op len back).res = s.res := rfl
@[simp] theorem State.appendDatum_xbuf (op : Instr) (len : Half) (back : List Label) : (s.appendDatum op len back).xbuf = s.xbuf := rfl
@[simp] theorem State.appendDatum_txout (op : Instr) (len : Half) (back : List Label) : (s.appendDatum op len back).txout = s.txout := rfl
@[simp] theorem State.appendDatum_now (op : Instr) (len : Half) (back : List Label) : (s.appendDatum op len back).now = s.now := rfl
@[simp] theorem State.appendDatum_inBuf (op : Instr) (len : Half) (back : List Label) : (s.appendDatum op len back).inBuf = s.inBuf := rfl
@[simp] theorem State.appendDatum_out (op : Instr) (len : Half) (back : List Label) : (s.appendDatum op len back).out = s.out := rfl
@[simp] theorem State.appendDatum_reqs (op : Instr) (len : Half) (back : List Label) : (s.appendDatum op len back).reqs = s.reqs := rfl
@[simp] theorem State.appendDatum_env (op : Instr) (len : Half) (back : List Label) : (s.appendDatum op len back).env = s.env := rfl
@[simp] theorem State.appendDatum_held (op : Instr) (len : Half) (back : List Label) : (s.appendDatum op len back).held = s.held := rfl
@[simp] theorem State.appendDatum_freeCount (op : Instr) (len : Half) (back : List Label) : (s.appendDatum op len back).freeCount = s.freeCountAfter := rfl
@[simp] theorem State.appendDatum_cause (op : Instr) (len : Half) (back : List Label) : (s.appendDatum op len back).cause = s.cause := rfl
@[simp] theorem State.appendDatum_ackTimeouts (op : Instr) (len : Half) (back : List Label) : (s.appendDatum op len back).ackTimeouts = s.ackTimeouts := rfl
@[simp] theorem State.appendDatum_txLog (op : Instr) (len : Half) (back : List Label) : (s.appendDatum op len back).txLog = s.txLog := rfl
@[simp] theorem State.appendDatum_uncopied (op : Instr) (len : Half) (back : List Label) : (s.appendDatum op len back).uncopied = s.uncopied := rfl
@[simp] theorem State.appendDatum_readFailed (op : Instr) (len : Half) (back : List Label) : (s.appendDatum op len back).readFailed = s.readFailed := rfl

/-! ## State.fail -/

@[simp] theorem State.fail_cfg (c : Cause) : (s.fail c).cfg = s.cfg := rfl
@[simp] theorem State.fail_rxstate (c : Cause) : (s.fail c).rxstate = s.rxstate := rfl
@[simp] theorem State.fail_txstate (c : Cause) : (s.fail c).txstate = s.txstate := rfl
@[simp] theorem State.fail_dataReceived (c : Cause) : (s.fail c).dataReceived = s.dataReceived := rfl
@[simp] theorem State.fail_dataSent (c : Cause) : (s.fail c).dataSent = s.dataSent := rfl
@[simp] theorem State.fail_rxref (c : Cause) : (s.fail c).rxref = s.rxref := rfl
@[simp] theorem State.fail_rxbuf (c : Cause) : (s.fail c).rxbuf = s.rxbuf := rfl
@[simp] theorem State.fail_rxpos (c : Cause) : (s.fail c).rxpos = s.rxpos := rfl
@[simp] theorem State.fail_txbuf (c : Cause) : (s.fail c).txbuf = s.txbuf := rfl
@[simp] theorem State.fail_txpos (c : Cause) : (s.fail c).txpos = s.txpos := rfl
@[simp] theorem State.fail_irqOff (c : Cause) : (s.fail c).irqOff = s.irqOff := rfl
@[simp] theorem State.fail_fg (c : Cause) : (s.fail c).fg = .idle := rfl
@[simp] theorem State.fail_t0 (c : Cause) : (s.fail c).t0 = s.t0 := rfl
@[simp] theorem State.fail_l (c : Cause) : (s.fail c).l = s.l := rfl
@[simp] theorem State.fail_i (c : Cause) : (s.fail c).i = s.i := rfl
@[simp] theorem State.fail_cap (c : Cause) : (s.fail c).cap = s.cap := rfl
@[simp] theorem State.fail_ind (c : Cause) : (s.fail c).ind = s.ind := rfl
@[simp] theorem State.fail_res (c : Cause) : (s.fail c).res = failResult := rfl
@[simp] theorem State.fail_xbuf (c : Cause) : (s.fail c).xbuf = s.xbuf := rfl
@[simp] theorem State.fail_txout (c : Cause) : (s.fail c).txout = s.txout := rfl
@[simp] theorem State.fail_now (c : Cause) : (s.fail c).now = s.now := rfl
@[simp] theorem State.fail_inBuf (c : Cause) : (s.fail c).inBuf = s.inBuf := rfl
@[simp] theorem State.fail_out (c : Cause) : (s.fail c).out = s.out := rfl
@[simp] theorem State.fail_reqs (c : Cause) : (s.fail c).reqs = s.reqs := rfl
@[simp] theorem State.fail_env (c : Cause) : (s.fail c).env = s.env := rfl
@[simp] theorem State.fail_held (c : Cause) : (s.fail c).held = s.held := rfl
@[simp] theorem State.fail_freeCount (c : Cause) : (s.fail c).freeCount = s.freeCount := rfl
@[simp] theorem State.fail_cause (c : Cause) : (s.fail c).cause = some c := rfl
@[simp] theorem State.fail_ackTimeouts (c : Cause) : (s.fail c).ackTimeouts = s.ackTimeouts := rfl
@[simp] theorem State.fail_txLog (c : Cause) : (s.fail c).txLog = s.txLog := rfl
@[simp] theorem State.fail_uncopied (c : Cause) : (s.fail c).uncopied = s.uncopied := rfl
@[simp] theorem State.fail_readFailed (c : Cause) : (s.fail c).readFailed = s.readFailed := rfl

/-! ## State.copyChunk -/

@[simp] theorem State.copyChunk_cfg : (s.copyChunk).cfg = s.cfg := rfl
@[simp] theorem State.copyChunk_rxstate : (s.copyChunk).rxstate = s.rxstate := rfl
@[simp] theorem State.copyChunk_txstate : (s.copyChunk).txstate = s.txstate := rfl
@[simp] theorem State.copyChunk_dataReceived : (s.copyChunk).dataReceived = s.dataReceived := rfl
@[simp] theorem State.copyChunk_dataSent : (s.copyChunk).dataSent = s.dataSent := rfl
@[simp] theorem State.copyChunk_rxref : (s.copyChunk).rxref = s.rxref := rfl
@[simp] theorem State.copyChunk_rxbuf : (s.copyChunk).rxbuf = s.xbuf := rfl
@[simp] theorem State.copyChunk_rxpos : (s.copyChunk).rxpos = s.rxpos := rfl
@[simp] theorem State.copyChunk_txbuf : (s.copyChunk).txbuf = s.txbuf := rfl
@[simp] theorem State.copyChunk_txpos : (s.copyChunk).txpos = s.txpos := rfl
@[simp] theorem State.copyChunk_irqOff : (s.copyChunk).irqOff = s.irqOff := rfl
@[simp] theorem State.copyChunk_fg : (s.copyChunk).fg = s.fg := rfl
@[simp] theorem State.copyChunk_t0 : (s.copyChunk).t0 = s.t0 := rfl
@[simp] theorem State.copyChunk_l : (s.copyChunk).l = s.l := rfl
@[simp] theorem State.copyChunk_i : (s.copyChunk).i = s.i := rfl
@[simp] theorem State.copyChunk_cap : (s.copyChunk).cap = s.cap := rfl
@[simp] theorem State.copyChunk_ind : (s.copyChunk).ind = s.ind := rfl
@[simp] theorem State.copyChunk_res : (s.copyChunk).res = s.res := rfl
@[simp] theorem State.copyChunk_xbuf : (s.copyChunk).xbuf = s.xbuf := rfl
@[simp] theorem State.copyChunk_txout : (s.copyChunk).txout = s.txout := rfl
@[simp] theorem State.copyChunk_now : (s.copyChunk).now = s.now := rfl
@[simp] theorem State.copyChunk_inBuf : (s.copyChunk).inBuf = s.inBuf := rfl
@[simp] theorem State.copyChunk_out : (s.copyChunk).out = s.out := rfl
@[simp] theorem State.copyChunk_reqs : (s.copyChunk).reqs = s.reqs := rfl
@[simp] theorem State.copyChunk_env : (s.copyChunk).env = s.env := rfl
@[simp] theorem State.copyChunk_held : (s.copyChunk).held = s.held := rfl
@[simp] theorem State.copyChunk_freeCount : (s.copyChunk).freeCount = s.freeCount := rfl
@[simp] theorem State.copyChunk_cause : (s.copyChunk).cause = s.cause := rfl
@[simp] theorem State.copyChunk_ackTimeouts : (s.copyChunk).ackTimeouts = s.ackTimeouts := rfl
@[simp] theorem State.copyChunk_txLog : (s.copyChunk).txLog = s.txLog := rfl
@[simp] theorem State.copyChunk_uncopied : (s.copyChunk).uncopied = false := rfl
@[simp] theorem State.copyChunk_readFailed : (s.copyChunk).readFailed = s.readFailed := rfl

/-! ## State.acceptChunk -/

@[simp] theorem State.acceptChunk_cfg : (s.acceptChunk).cfg = s.cfg := rfl
@[simp] theorem State.acceptChunk_rxstate : (s.acceptChunk).rxstate = s.rxstate := rfl
@[simp] theorem State.acceptChunk_txstate : (s.acceptChunk).txstate = s.txstate := rfl
@[simp] theorem State.acceptChunk_dataReceived : (s.acceptChunk).dataReceived = s.dataReceived := rfl
@[simp] theorem State.acceptChunk_dataSent : (s.acceptChunk).dataSent = s.dataSent := rfl
@[simp] theorem State.acceptChunk_rxref : (s.acceptChunk).rxref = s.rxref := rfl
@[simp] theorem State.acceptChunk_rxbuf : (s.acceptChunk).rxbuf = s.rxbuf := rfl
@[simp] theorem State.acceptChunk_rxpos : (s.acceptChunk).rxpos = 1 := rfl
@[simp] theorem State.acceptChunk_txbuf : (s.acceptChunk).txbuf = s.txbuf := rfl
@[simp] theorem State.acceptChunk_txpos : (s.acceptChunk).txpos = s.txpos := rfl
@[simp] theorem State.acceptChunk_irqOff : (s.acceptChunk).irqOff = s.irqOff := rfl
@[simp] theorem State.acceptChunk_fg : (s.acceptChunk).fg = s.fg := rfl
@[simp] theorem State.acceptChunk_t0 : (s.acceptChunk).t0 = s.t0 := rfl
@[simp] theorem State.acceptChunk_l : (s.acceptChunk).l = s.l := rfl
@[simp] theorem State.acceptChunk_i : (s.acceptChunk).i = s.i := rfl
@[simp] theorem State.acceptChunk_cap : (s.acceptChunk).cap = s.cap := rfl
@[simp] theorem State.acceptChunk_ind : (s.acceptChunk).ind = s.ind := rfl
@[simp] theorem State.acceptChunk_res : (s.acceptChunk).res = s.res := rfl
@[simp] theorem State.acceptChunk_xbuf : (s.acceptChunk).xbuf = s.xbuf := rfl
@[simp] theorem State.acceptChunk_txout : (s.acceptChunk).txout = s.txout := rfl
@[simp] theorem State.acceptChunk_now : (s.acceptChunk).now = s.now := rfl
@[simp] theorem State.acceptChunk_inBuf : (s.acceptChunk).inBuf = s.inBuf := rfl
@[simp] theorem State.acceptChunk_out : (s.acceptChunk).out = s.out := rfl
@[simp] theorem State.acceptChunk_reqs : (s.acceptChunk).reqs = s.reqs := rfl
@[simp] theorem State.acceptChunk_env : (s.acceptChunk).env = s.env := rfl
@[simp] theorem State.acceptChunk_held : (s.acceptChunk).held = s.held := rfl
@[simp] theorem State.acceptChunk_freeCount : (s.acceptChunk).freeCount = s.freeCount := rfl
@[simp] theorem State.acceptChunk_cause : (s.acceptChunk).cause = s.cause := rfl
@[simp] theorem State.acceptChunk_ackTimeouts : (s.acceptChunk).ackTimeouts = s.ackTimeouts := rfl
@[simp] theorem State.acceptChunk_txLog : (s.acceptChunk).txLog = s.txLog := rfl
@[simp] theorem State.acceptChunk_uncopied : (s.acceptChunk).uncopied = s.uncopied := rfl
@[simp] theorem State.acceptChunk_readFailed : (s.acceptChunk).readFailed = false := rfl

/-! ## State.failRead -/

@[simp] theorem State.failRead_cfg (c : Cause) : (s.failRead c).cfg = s.cfg := rfl
@[simp] theorem State.failRead_rxstate (c : Cause) : (s.failRead c).rxstate = s.rxstate := rfl
@[simp] theorem State.failRead_txstate (c : Cause) : (s.failRead c).txstate = s.txstate := rfl
@[simp] theorem State.failRead_dataReceived (c : Cause) : (s.failRead c).dataReceived = s.dataReceived := rfl
@[simp] theorem State.failRead_dataSent (c : Cause) : (s.failRead c).dataSent = s.dataSent := rfl
@[simp] theorem State.failRead_rxref (c : Cause) : (s.failRead c).rxref = s.rxref := rfl
@[simp] theorem State.failRead_rxbuf (c : Cause) : (s.failRead c).rxbuf = s.rxbuf := rfl
@[simp] theorem State.failRead_rxpos (c : Cause) : (s.failRead c).rxpos = s.rxpos := rfl
@[simp] theorem State.failRead_txbuf (c : Cause) : (s.failRead c).txbuf = s.txbuf := rfl
@[simp] theorem State.failRead_txpos (c : Cause) : (s.failRead c).txpos = s.txpos := rfl
@[simp] theorem State.failRead_irqOff (c : Cause) : (s.failRead c).irqOff = s.irqOff := rfl
@[simp] theorem State.failRead_fg (c : Cause) : (s.failRead c).fg = .idle := rfl
@[simp] theorem State.failRead_t0 (c : Cause) : (s.failRead c).t0 = s.t0 := rfl
@[simp] theorem State.failRead_l (c : Cause) : (s.failRead c).l = s.l := rfl
@[simp] theorem State.failRead_i (c : Cause) : (s.failRead c).i = s.i := rfl
@[simp] theorem State.failRead_cap (c : Cause) : (s.failRead c).cap = s.cap := rfl
@[simp] theorem State.failRead_ind (c : Cause) : (s.failRead c).ind = s.ind := rfl
@[simp] theorem State.failRead_res (c : Cause) : (s.failRead c).res = failResult := rfl
@[simp] theorem State.failRead_xbuf (c : Cause) : (s.failRead c).xbuf = s.xbuf := rfl
@[simp] theorem State.failRead_txout (c : Cause) : (s.failRead c).txout = s.txout := rfl
@[simp] theorem State.failRead_now (c : Cause) : (s.failRead c).now = s.now := rfl
@[simp] theorem State.failRead_inBuf (c : Cause) : (s.failRead c).inBuf = s.inBuf := rfl
@[simp] theorem State.failRead_out (c : Cause) : (s.failRead c).out = s.out := rfl
@[simp] theorem State.failRead_reqs (c : Cause) : (s.failRead c).reqs = s.reqs := rfl
@[simp] theorem State.failRead_env (c : Cause) : (s.failRead c).env = s.env := rfl
@[simp] theorem State.failRead_held (c : Cause) : (s.failRead c).held = s.held := rfl
@[simp] theorem State.failRead_freeCount (c : Cause) : (s.failRead c).freeCount = s.freeCount := rfl
@[simp] theorem State.failRead_cause (c : Cause) : (s.failRead c).cause = some c := rfl
@[simp] theorem State.failRead_ackTimeouts (c : Cause) : (s.failRead c).ackTimeouts = s.ackTimeouts := rfl
@[simp] theorem State.failRead_txLog (c : Cause) : (s.failRead c).txLog = s.txLog := rfl
@[simp] theorem State.failRead_uncopied (c : Cause) : (s.failRead c).uncopied = s.uncopied := rfl
@[simp] theorem State.failRead_readFailed (c : Cause) : (s.failRead c).readFailed = true := rfl

/-! ## State.invalidate -/

@[simp] theorem State.invalidate_cfg : (s.invalidate).cfg = s.cfg := rfl
@[simp] theorem State.invalidate_rxstate : (s.invalidate).rxstate = s.rxstate := rfl
@[simp] theorem State.invalidate_txstate : (s.invalidate).txstate = s.txstate := rfl
@[simp] theorem State.invalidate_dataReceived : (s.invalidate).dataReceived = s.dataReceived := rfl
@[simp] theorem State.invalidate_dataSent : (s.invalidate).dataSent = s.dataSent := rfl
@[simp] theorem State.invalidate_rxref : (s.invalidate).rxref = s.rxref := rfl
@[simp] theorem State.invalidate_rxbuf : (s.invalidate).rxbuf = s.rxbuf.set 0 s.cfg.indInvalid := rfl
@[simp] theorem State.invalidate_rxpos : (s.invalidate).rxpos = s.rxpos := rfl
@[simp] theorem State.invalidate_txbuf : (s.invalidate).txbuf = s.txbuf := rfl
@[simp] theorem State.invalidate_txpos : (s.invalidate).txpos = s.txpos := rfl
@[simp] theorem State.invalidate_irqOff : (s.invalidate).irqOff = s.irqOff := rfl
@[simp] theorem State.invalidate_fg : (s.invalidate).fg = s.fg := rfl
@[simp] theorem State.invalidate_t0 : (s.invalidate).t0 = s.t0 := rfl
@[simp] theorem State.invalidate_l : (s.invalidate).l = s.l := rfl
@[simp] theorem State.invalidate_i : (s.invalidate).i = s.i := rfl
@[simp] theorem State.invalidate_cap : (s.invalidate).cap = s.cap := rfl
@[simp] theorem State.invalidate_ind : (s.invalidate).ind = s.ind := rfl
@[simp] theorem State.invalidate_res : (s.invalidate).res = s.res := rfl
@[simp] theorem State.invalidate_xbuf : (s.invalidate).xbuf = s.xbuf := rfl
@[simp] theorem State.invalidate_txout : (s.invalidate).txout = s.txout := rfl
@[simp] theorem State.invalidate_now : (s.invalidate).now = s.now := rfl
@[simp] theorem State.invalidate_inBuf : (s.invalidate).inBuf = s.inBuf := rfl
@[simp] theorem State.invalidate_out : (s.invalidate).out = s.out := rfl
@[simp] theorem State.invalidate_reqs : (s.invalidate).reqs = s.reqs := rfl
@[simp] theorem State.invalidate_env : (s.invalidate).env = s.env := rfl
@[simp] theorem State.invalidate_held : (s.invalidate).held = s.held := rfl
@[simp] theorem State.invalidate_freeCount : (s.invalidate).freeCount = s.freeCount := rfl
@[simp] theorem State.invalidate_cause : (s.invalidate).cause = s.cause := rfl
@[simp] theorem State.invalidate_ackTimeouts : (s.invalidate).ackTimeouts = s.ackTimeouts := rfl
@[simp] theorem State.invalidate_txLog : (s.invalidate).txLog = s.txLog := rfl
@[simp] theorem State.invalidate_uncopied : (s.invalidate).uncopied = s.uncopied := rfl
@[simp] theorem State.invalidate_readFailed : (s.invalidate).readFailed = s.readFailed := rfl

/-! ## State.handOff -/

@[simp] theorem State.handOff_cfg : (s.handOff).cfg = s.cfg := rfl
@[simp] theorem State.handOff_rxstate : (s.handOff).rxstate = s.rxstate := rfl
@[simp] theorem State.handOff_txstate : (s.handOff).txstate = s.cfg.txReady := rfl
@[simp] theorem State.handOff_dataReceived : (s.handOff).dataReceived = s.dataReceived := rfl
@[simp] theorem State.handOff_dataSent : (s.handOff).dataSent = false := rfl
@[simp] theorem State.handOff_rxref : (s.handOff).rxref = s.rxref := rfl
@[simp] theorem State.handOff_rxbuf : (s.handOff).rxbuf = s.rxbuf := rfl
@[simp] theorem State.handOff_rxpos : (s.handOff).rxpos = s.rxpos := rfl
@[simp] theorem State.handOff_txbuf : (s.handOff).txbuf = s.taggedTxbuf := rfl
@[simp] theorem State.handOff_txpos : (s.handOff).txpos = s.txpos := rfl
@[simp] theorem State.handOff_irqOff : (s.handOff).irqOff = s.irqOff := rfl
@[simp] theorem State.handOff_fg : (s.handOff).fg = s.fg := rfl
@[simp] theorem State.handOff_t0 : (s.handOff).t0 = s.t0 := rfl
@[simp] theorem State.handOff_l : (s.handOff).l = s.l := rfl
@[simp] theorem State.handOff_i : (s.handOff).i = s.i := rfl
@[simp] theorem State.handOff_cap : (s.handOff).cap = s.cap := rfl
@[simp] theorem State.handOff_ind : (s.handOff).ind = s.ind := rfl
@[simp] theorem State.handOff_res : (s.handOff).res = s.res := rfl
@[simp] theorem State.handOff_xbuf : (s.handOff).xbuf = s.xbuf := rfl
@[simp] theorem State.handOff_txout : (s.handOff).txout = s.outboundBytes := rfl
@[simp] theorem State.handOff_now : (s.handOff).now = s.now := rfl
@[simp] theorem State.handOff_inBuf : (s.handOff).inBuf = s.inBuf := rfl
@[simp] theorem State.handOff_out : (s.handOff).out = s.out := rfl
@[simp] theorem State.handOff_reqs : (s.handOff).reqs = s.reqs := rfl
@[simp] theorem State.handOff_env : (s.handOff).env = s.env := rfl
@[simp] theorem State.handOff_held : (s.handOff).held = s.held := rfl
@[simp] theorem State.handOff_freeCount : (s.handOff).freeCount = s.freeCount := rfl
@[simp] theorem State.handOff_cause : (s.handOff).cause = s.cause := rfl
@[simp] theorem State.handOff_ackTimeouts : (s.handOff).ackTimeouts = s.ackTimeouts := rfl
@[simp] theorem State.handOff_txLog : (s.handOff).txLog = s.txLog ++ [s.outboundBytes] := rfl
@[simp] theorem State.handOff_uncopied : (s.handOff).uncopied = s.uncopied := rfl
@[simp] theorem State.handOff_readFailed : (s.handOff).readFailed = s.readFailed := rfl

/-! ## State.chunkReceived -/

@[simp] theorem State.chunkReceived_cfg (chunk : Chunk) (ref : Nat) : (s.chunkReceived chunk ref).cfg = s.cfg := rfl
@[simp] theorem State.chunkReceived_rxstate (chunk : Chunk) (ref : Nat) : (s.chunkReceived chunk ref).rxstate = s.cfg.rxBusy := rfl
@[simp] theorem State.chunkReceived_txstate (chunk : Chunk) (ref : Nat) : (s.chunkReceived chunk ref).txstate = s.txstate := rfl
@[simp] theorem State.chunkReceived_dataReceived (chunk : Chunk) (ref : Nat) : (s.chunkReceived chunk ref).dataReceived = true := rfl
@[simp] theorem State.chunkReceived_dataSent (chunk : Chunk) (ref : Nat) : (s.chunkReceived chunk ref).dataSent = s.dataSent := rfl
@[simp] theorem State.chunkReceived_rxref (chunk : Chunk) (ref : Nat) : (s.chunkReceived chunk ref).rxref = ref % 2 ^ s.cfg.refW := rfl
@[simp] theorem State.chunkReceived_rxbuf (chunk : Chunk) (ref : Nat) : (s.chunkReceived chunk ref).rxbuf = s.rxbuf := rfl
@[simp] theorem State.chunkReceived_rxpos (chunk : Chunk) (ref : Nat) : (s.chunkReceived chunk ref).rxpos = s.rxpos := rfl
@[simp] theorem State.chunkReceived_txbuf (chunk : Chunk) (ref : Nat) : (s.chunkReceived chunk ref).txbuf = s.txbuf := rfl
@[simp] theorem State.chunkReceived_txpos (chunk : Chunk) (ref : Nat) : (s.chunkReceived chunk ref).txpos = s.txpos := rfl
@[simp] theorem State.chunkReceived_irqOff (chunk : Chunk) (ref : Nat) : (s.chunkReceived chunk ref).irqOff = s.irqOff := rfl
@[simp] theorem State.chunkReceived_fg (chunk : Chunk) (ref : Nat) : (s.chunkReceived chunk ref).fg = s.fg := rfl
@[simp] theorem State.chunkReceived_t0 (chunk : Chunk) (ref : Nat) : (s.chunkReceived chunk ref).t0 = s.t0 := rfl
@[simp] theorem State.chunkReceived_l (chunk : Chunk) (ref : Nat) : (s.chunkReceived chunk ref).l = s.l := rfl
@[simp] theorem State.chunkReceived_i (chunk : Chunk) (ref : Nat) : (s.chunkReceived chunk ref).i = s.i := rfl
@[simp] theorem State.chunkReceived_cap (chunk : Chunk) (ref : Nat) : (s.chunkReceived chunk ref).cap = s.cap := rfl
@[simp] theorem State.chunkReceived_ind (chunk : Chunk) (ref : Nat) : (s.chunkReceived chunk ref).ind = s.ind := rfl
@[simp] theorem State.chunkReceived_res (chunk : Chunk) (ref : Nat) : (s.chunkReceived chunk ref).res = s.res := rfl
@[simp] theorem State.chunkReceived_xbuf (chunk : Chunk) (ref : Nat) : (s.chunkReceived chunk ref).xbuf = chunk := rfl
@[simp] theorem State.chunkReceived_txout (chunk : Chunk) (ref : Nat) : (s.chunkReceived chunk ref).txout = s.txout := rfl
@[simp] theorem State.chunkReceived_now (chunk : Chunk) (ref : Nat) : (s.chunkReceived chunk ref).now = s.now := rfl
@[simp] theorem State.chunkReceived_inBuf (chunk : Chunk) (ref : Nat) : (s.chunkReceived chunk ref).inBuf = s.inBuf := rfl
@[simp] theorem State.chunkReceived_out (chunk : Chunk) (ref : Nat) : (s.chunkReceived chunk ref).out = s.out := rfl
@[simp] theorem State.chunkReceived_reqs (chunk : Chunk) (ref : Nat) : (s.chunkReceived chunk ref).reqs = s.reqs := rfl
@[simp] theorem State.chunkReceived_env (chunk : Chunk) (ref : Nat) : (s.chunkReceived chunk ref).env = s.env := rfl
@[simp] theorem State.chunkReceived_held (chunk : Chunk) (ref : Nat) : (s.chunkReceived chunk ref).held = s.held := rfl
@[simp] theorem State.chunkReceived_freeCount (chunk : Chunk) (ref : Nat) : (s.chunkReceived chunk ref).freeCount = s.freeCount := rfl
@[simp] theorem State.chunkReceived_cause (chunk : Chunk) (ref : Nat) : (s.chunkReceived chunk ref).cause = s.cause := rfl
@[simp] theorem State.chunkReceived_ackTimeouts (chunk : Chunk) (ref : Nat) : (s.chunkReceived chunk ref).ackTimeouts = s.ackTimeouts := rfl
@[simp] theorem State.chunkReceived_txLog (chunk : Chunk) (ref : Nat) : (s.chunkReceived chunk ref).txLog = s.txLog := rfl
@[simp] theorem State.chunkReceived_uncopied (chunk : Chunk) (ref : Nat) : (s.chunkReceived chunk ref).uncopied = true := rfl
@[simp] theorem State.chunkReceived_readFailed (chunk : Chunk) (ref : Nat) : (s.chunkReceived chunk ref).readFailed = s.readFailed := rfl

/-! ## State.chunkConsumed -/

@[simp] theorem State.chunkConsumed_cfg : (s.chunkConsumed).cfg = s.cfg := rfl
@[simp] theorem State.chunkConsumed_rxstate : (s.chunkConsumed).rxstate = s.rxstate := rfl
@[simp] theorem State.chunkConsumed_txstate : (s.chunkConsumed).txstate = s.cfg.txNodata := rfl
@[simp] theorem State.chunkConsumed_dataReceived : (s.chunkConsumed).dataReceived = s.dataReceived := rfl
@[simp] theorem State.chunkConsumed_dataSent : (s.chunkConsumed).dataSent = true := rfl
@[simp] theorem State.chunkConsumed_rxref : (s.chunkConsumed).rxref = s.rxref := rfl
@[simp] theorem State.chunkConsumed_rxbuf : (s.chunkConsumed).rxbuf = s.rxbuf := rfl
@[simp] theorem State.chunkConsumed_rxpos : (s.chunkConsumed).rxpos = s.rxpos := rfl
@[simp] theorem State.chunkConsumed_txbuf : (s.chunkConsumed).txbuf = s.txbuf := rfl
@[simp] theorem State.chunkConsumed_txpos : (s.chunkConsumed).txpos = s.txpos := rfl
@[simp] theorem State.chunkConsumed_irqOff : (s.chunkConsumed).irqOff = s.irqOff := rfl
@[simp] theorem State.chunkConsumed_fg : (s.chunkConsumed).fg = s.fg := rfl
@[simp] theorem State.chunkConsumed_t0 : (s.chunkConsumed).t0 = s.t0 := rfl
@[simp] theorem State.chunkConsumed_l : (s.chunkConsumed).l = s.l := rfl
@[simp] theorem State.chunkConsumed_i : (s.chunkConsumed).i = s.i := rfl
@[simp] theorem State.chunkConsumed_cap : (s.chunkConsumed).cap = s.cap := rfl
@[simp] theorem State.chunkConsumed_ind : (s.chunkConsumed).ind = s.ind := rfl
@[simp] theorem State.chunkConsumed_res : (s.chunkConsumed).res = s.res := rfl
@[simp] theorem State.chunkConsumed_xbuf : (s.chunkConsumed).xbuf = s.xbuf := rfl
@[simp] theorem State.chunkConsumed_txout : (s.chunkConsumed).txout = s.txout := rfl
@[simp] theorem State.chunkConsumed_now : (s.chunkConsumed).now = s.now := rfl
@[simp] theorem State.chunkConsumed_inBuf : (s.chunkConsumed).inBuf = s.inBuf := rfl
@[simp] theorem State.chunkConsumed_out : (s.chunkConsumed).out = s.out := rfl
@[simp] theorem State.chunkConsumed_reqs : (s.chunkConsumed).reqs = s.reqs := rfl
@[simp] theorem State.chunkConsumed_env : (s.chunkConsumed).env = s.env := rfl
@[simp] theorem State.chunkConsumed_held : (s.chunkConsumed).held = s.held := rfl
@[simp] theorem State.chunkConsumed_freeCount : (s.chunkConsumed).freeCount = s.freeCount := rfl
@[simp] theorem State.chunkConsumed_cause : (s.chunkConsumed).cause = s.cause := rfl
@[simp] theorem State.chunkConsumed_ackTimeouts : (s.chunkConsumed).ackTimeouts = s.ackTimeouts := rfl
@[simp] theorem State.chunkConsumed_txLog : (s.chunkConsumed).txLog = s.txLog := rfl
@[simp] theorem State.chunkConsumed_uncopied : (s.chunkConsumed).uncopied = s.uncopied := rfl
@[simp] theorem State.chunkConsumed_readFailed : (s.chunkConsumed).readFailed = s.readFailed := rfl

/-! ## State.applyReset -/

@[simp] theorem State.applyReset_cfg : (s.applyReset).cfg = s.cfg := rfl
@[simp] theorem State.applyReset_rxstate : (s.applyReset).rxstate = s.cfg.rxReady := rfl
@[simp] theorem State.applyReset_txstate : (s.applyReset).txstate = s.cfg.txNodata := rfl
@[simp] theorem State.applyReset_dataReceived : (s.applyReset).dataReceived = false := rfl
@[simp] theorem State.applyReset_dataSent : (s.applyReset).dataSent = true := rfl
@[simp] theorem State.applyReset_rxref : (s.applyReset).rxref = 0 := rfl
@[simp] theorem State.applyReset_rxbuf : (s.applyReset).rxbuf = zeroChunk.set 0 s.cfg.indInvalid := rfl
@[simp] theorem State.applyReset_rxpos : (s.applyReset).rxpos = 32 := rfl
@[simp] theorem State.applyReset_txbuf : (s.applyReset).txbuf = zeroChunk := rfl
@[simp] theorem State.applyReset_txpos : (s.applyReset).txpos = 0 := rfl
@[simp] theorem State.applyReset_irqOff : (s.applyReset).irqOff = false := rfl
@[simp] theorem State.applyReset_fg : (s.applyReset).fg = .idle := rfl
@[simp] theorem State.applyReset_t0 : (s.applyReset).t0 = 0 := rfl
@[simp] theorem State.applyReset_l : (s.applyReset).l = 0 := rfl
@[simp] theorem State.applyReset_i : (s.applyReset).i = 0 := rfl
@[simp] theorem State.applyReset_cap : (s.applyReset).cap = 0 := rfl
@[simp] theorem State.applyReset_ind : (s.applyReset).ind = 0 := rfl
@[simp] theorem State.applyReset_res : (s.applyReset).res = 0 := rfl
@[simp] theorem State.applyReset_xbuf : (s.applyReset).xbuf = s.xbuf := rfl
@[simp] theorem State.applyReset_txout : (s.applyReset).txout = s.txout := rfl
@[simp] theorem State.applyReset_now : (s.applyReset).now = s.now := rfl
@[simp] theorem State.applyReset_inBuf : (s.applyReset).inBuf = s.inBuf := rfl
@[simp] theorem State.applyReset_out : (s.applyReset).out = s.out := rfl
@[simp] theorem State.applyReset_reqs : (s.applyReset).reqs = s.reqs := rfl
@[simp] theorem State.applyReset_env : (s.applyReset).env = s.env := rfl
@[simp] theorem State.applyReset_held : (s.applyReset).held = s.held := rfl
@[simp] theorem State.applyReset_freeCount : (s.applyReset).freeCount = s.freeCount := rfl
@[simp] theorem State.applyReset_cause : (s.applyReset).cause = none := rfl
@[simp] theorem State.applyReset_ackTimeouts : (s.applyReset).ackTimeouts = s.ackTimeouts := rfl
@[simp] theorem State.applyReset_txLog : (s.applyReset).txLog = s.txLog := rfl
@[simp] theorem State.applyReset_uncopied : (s.applyReset).uncopied = false := rfl
@[simp] theorem State.applyReset_readFailed : (s.applyReset).readFailed = false := rfl

/-! ## State.finish -/

@[simp] theorem State.finish_nil (op : Instr) (v : Half) :
    s.finish op v [] = { s with fg := .idle, res := v, cause := none } := rfl
@[simp] theorem State.finish_cons (op : Instr) (v : Half) (next : Label) (back : List Label) :
    s.finish op v (next :: back) = { s with fg := .running op v next back } := rfl
@[simp] theorem State.finish_cfg (op : Instr) (v : Half) (back : List Label) :
    (s.finish op v back).cfg = s.cfg := by cases back <;> rfl
@[simp] theorem State.finish_rxstate (op : Instr) (v : Half) (back : List Label) :
    (s.finish op v back).rxstate = s.rxstate := by cases back <;> rfl
@[simp] theorem State.finish_txstate (op : Instr) (v : Half) (back : List Label) :
    (s.finish op v back).txstate = s.txstate := by cases back <;> rfl
@[simp] theorem State.finish_dataReceived (op : Instr) (v : Half) (back : List Label) :
    (s.finish op v back).dataReceived = s.dataReceived := by cases back <;> rfl
@[simp] theorem State.finish_dataSent (op : Instr) (v : Half) (back : List Label) :
    (s.finish op v back).dataSent = s.dataSent := by cases back <;> rfl
@[simp] theorem State.finish_rxref (op : Instr) (v : Half) (back : List Label) :
    (s.finish op v back).rxref = s.rxref := by cases back <;> rfl
@[simp] theorem State.finish_rxbuf (op : Instr) (v : Half) (back : List Label) :
    (s.finish op v back).rxbuf = s.rxbuf := by cases back <;> rfl
@[simp] theorem State.finish_rxpos (op : Instr) (v : Half) (back : List Label) :
    (s.finish op v back).rxpos = s.rxpos := by cases back <;> rfl
@[simp] theorem State.finish_txbuf (op : Instr) (v : Half) (back : List Label) :
    (s.finish op v back).txbuf = s.txbuf := by cases back <;> rfl
@[simp] theorem State.finish_txpos (op : Instr) (v : Half) (back : List Label) :
    (s.finish op v back).txpos = s.txpos := by cases back <;> rfl
@[simp] theorem State.finish_irqOff (op : Instr) (v : Half) (back : List Label) :
    (s.finish op v back).irqOff = s.irqOff := by cases back <;> rfl
@[simp] theorem State.finish_t0 (op : Instr) (v : Half) (back : List Label) :
    (s.finish op v back).t0 = s.t0 := by cases back <;> rfl
@[simp] theorem State.finish_l (op : Instr) (v : Half) (back : List Label) :
    (s.finish op v back).l = s.l := by cases back <;> rfl
@[simp] theorem State.finish_i (op : Instr) (v : Half) (back : List Label) :
    (s.finish op v back).i = s.i := by cases back <;> rfl
@[simp] theorem State.finish_cap (op : Instr) (v : Half) (back : List Label) :
    (s.finish op v back).cap = s.cap := by cases back <;> rfl
@[simp] theorem State.finish_ind (op : Instr) (v : Half) (back : List Label) :
    (s.finish op v back).ind = s.ind := by cases back <;> rfl
@[simp] theorem State.finish_xbuf (op : Instr) (v : Half) (back : List Label) :
    (s.finish op v back).xbuf = s.xbuf := by cases back <;> rfl
@[simp] theorem State.finish_txout (op : Instr) (v : Half) (back : List Label) :
    (s.finish op v back).txout = s.txout := by cases back <;> rfl
@[simp] theorem State.finish_now (op : Instr) (v : Half) (back : List Label) :
    (s.finish op v back).now = s.now := by cases back <;> rfl
@[simp] theorem State.finish_inBuf (op : Instr) (v : Half) (back : List Label) :
    (s.finish op v back).inBuf = s.inBuf := by cases back <;> rfl
@[simp] theorem State.finish_out (op : Instr) (v : Half) (back : List Label) :
    (s.finish op v back).out = s.out := by cases back <;> rfl
@[simp] theorem State.finish_reqs (op : Instr) (v : Half) (back : List Label) :
    (s.finish op v back).reqs = s.reqs := by cases back <;> rfl
@[simp] theorem State.finish_env (op : Instr) (v : Half) (back : List Label) :
    (s.finish op v back).env = s.env := by cases back <;> rfl
@[simp] theorem State.finish_held (op : Instr) (v : Half) (back : List Label) :
    (s.finish op v back).held = s.held := by cases back <;> rfl
@[simp] theorem State.finish_freeCount (op : Instr) (v : Half) (back : List Label) :
    (s.finish op v back).freeCount = s.freeCount := by cases back <;> rfl
@[simp] theorem State.finish_ackTimeouts (op : Instr) (v : Half) (back : List Label) :
    (s.finish op v back).ackTimeouts = s.ackTimeouts := by cases back <;> rfl
@[simp] theorem State.finish_txLog (op : Instr) (v : Half) (back : List Label) :
    (s.finish op v back).txLog = s.txLog := by cases back <;> rfl
@[simp] theorem State.finish_uncopied (op : Instr) (v : Half) (back : List Label) :
    (s.finish op v back).uncopied = s.uncopied := by cases back <;> rfl
@[simp] theorem State.finish_readFailed (op : Instr) (v : Half) (back : List Label) :
    (s.finish op v back).readFailed = s.readFailed := by cases back <;> rfl

/-! ## State.stay -/

@[simp] theorem State.stay_cfg (timeout : Millis) : (s.stay timeout).cfg = s.cfg := by
  unfold State.stay; split <;> rfl
@[simp] theorem State.stay_rxstate (timeout : Millis) : (s.stay timeout).rxstate = s.rxstate := by
  unfold State.stay; split <;> rfl
@[simp] theorem State.stay_txstate (timeout : Millis) : (s.stay timeout).txstate = s.txstate := by
  unfold State.stay; split <;> rfl
@[simp] theorem State.stay_dataReceived (timeout : Millis) : (s.stay timeout).dataReceived = s.dataReceived := by
  unfold State.stay; split <;> rfl
@[simp] theorem State.stay_dataSent (timeout : Millis) : (s.stay timeout).dataSent = s.dataSent := by
  unfold State.stay; split <;> rfl
@[simp] theorem State.stay_rxref (timeout : Millis) : (s.stay timeout).rxref = s.rxref := by
  unfold State.stay; split <;> rfl
@[simp] theorem State.stay_rxbuf (timeout : Millis) : (s.stay timeout).rxbuf = s.rxbuf := by
  unfold State.stay; split <;> rfl
@[simp] theorem State.stay_rxpos (timeout : Millis) : (s.stay timeout).rxpos = s.rxpos := by
  unfold State.stay; split <;> rfl
@[simp] theorem State.stay_txbuf (timeout : Millis) : (s.stay timeout).txbuf = s.txbuf := by
  unfold State.stay; split <;> rfl
@[simp] theorem State.stay_txpos (timeout : Millis) : (s.stay timeout).txpos = s.txpos := by
  unfold State.stay; split <;> rfl
@[simp] theorem State.stay_irqOff (timeout : Millis) : (s.stay timeout).irqOff = s.irqOff := by
  unfold State.stay; split <;> rfl
@[simp] theorem State.stay_fg (timeout : Millis) : (s.stay timeout).fg = s.fg := by
  unfold State.stay; split <;> rfl
@[simp] theorem State.stay_t0 (timeout : Millis) : (s.stay timeout).t0 = s.t0 := by
  unfold State.stay; split <;> rfl
@[simp] theorem State.stay_l (timeout : Millis) : (s.stay timeout).l = s.l := by
  unfold State.stay; split <;> rfl
@[simp] theorem State.stay_i (timeout : Millis) : (s.stay timeout).i = s.i := by
  unfold State.stay; split <;> rfl
@[simp] theorem State.stay_cap (timeout : Millis) : (s.stay timeout).cap = s.cap := by
  unfold State.stay; split <;> rfl
@[simp] theorem State.stay_ind (timeout : Millis) : (s.stay timeout).ind = s.ind := by
  unfold State.stay; split <;> rfl
@[simp] theorem State.stay_res (timeout : Millis) : (s.stay timeout).res = s.res := by
  unfold State.stay; split <;> rfl
@[simp] theorem State.stay_xbuf (timeout : Millis) : (s.stay timeout).xbuf = s.xbuf := by
  unfold State.stay; split <;> rfl
@[simp] theorem State.stay_txout (timeout : Millis) : (s.stay timeout).txout = s.txout := by
  unfold State.stay; split <;> rfl
@[simp] theorem State.stay_inBuf (timeout : Millis) : (s.stay timeout).inBuf = s.inBuf := by
  unfold State.stay; split <;> rfl
@[simp] theorem State.stay_out (timeout : Millis) : (s.stay timeout).out = s.out := by
  unfold State.stay; split <;> rfl
@[simp] theorem State.stay_reqs (timeout : Millis) : (s.stay timeout).reqs = s.reqs := by
  unfold State.stay; split <;> rfl
@[simp] theorem State.stay_env (timeout : Millis) : (s.stay timeout).env = s.env := by
  unfold State.stay; split <;> rfl
@[simp] theorem State.stay_held (timeout : Millis) : (s.stay timeout).held = s.held := by
  unfold State.stay; split <;> rfl
@[simp] theorem State.stay_freeCount (timeout : Millis) : (s.stay timeout).freeCount = s.freeCount := by
  unfold State.stay; split <;> rfl
@[simp] theorem State.stay_cause (timeout : Millis) : (s.stay timeout).cause = s.cause := by
  unfold State.stay; split <;> rfl
@[simp] theorem State.stay_ackTimeouts (timeout : Millis) : (s.stay timeout).ackTimeouts = s.ackTimeouts := by
  unfold State.stay; split <;> rfl
@[simp] theorem State.stay_txLog (timeout : Millis) : (s.stay timeout).txLog = s.txLog := by
  unfold State.stay; split <;> rfl
@[simp] theorem State.stay_uncopied (timeout : Millis) : (s.stay timeout).uncopied = s.uncopied := by
  unfold State.stay; split <;> rfl
@[simp] theorem State.stay_readFailed (timeout : Millis) : (s.stay timeout).readFailed = s.readFailed := by
  unfold State.stay; split <;> rfl

end Sys2Proof.Machine
end

