-- ==== Sys2Proof/Laws/Environment.lean ====
section
/-! SUPPORT. What a move and a turn of the environment can do. -/

namespace Sys2Proof.Machine

open Sys2Proof

/-- A turn in which nothing is scheduled and nothing is held back changes nothing. -/
theorem State.environment_quiet (s : State) (he : s.env = []) (hh : s.held = []) : s.environment = s := by
  cases s
  simp only at he hh
  subst he hh
  rfl

/-- What a move that is no reset can do: only the five registers both contexts share, XBUF, NOW,
the held-back notifications and the ghost `uncopied` change, and a suppressed machine's registers do not (60 R163, R171). -/
theorem State.applyMove_cases (s : State) (m : Move) (h : m.notReset = true) :
    (∃ ms, m = .tick ms ∧ s.applyMove m = { s with now := s.now + ms }) ∨
    (s.irqOff = true ∧ s.applyMove m = { s with held := s.held ++ [m] }) ∨
    (s.irqOff = false ∧ ∃ c r, m = .rx c r ∧ s.applyMove m = s.chunkReceived c r) ∨
    (s.irqOff = false ∧ m = .tx ∧ s.applyMove m = s.chunkConsumed) := by
  cases m with
  | rx c r => cases hq : s.irqOff <;> simp [State.applyMove, hq]
  | tx => cases hq : s.irqOff <;> simp [State.applyMove, hq]
  | tick ms => exact .inl ⟨ms, rfl, rfl⟩
  | rst => simp [Move.notReset] at h

/-- The fields no move but a reset touches, as one record: what a turn without a reset leaves. -/
theorem State.applyMove_frame (s : State) (m : Move) (h : m.notReset = true) :
    ∃ xb rr rs dr ds ts nw hd uc, s.applyMove m =
      { s with xbuf := xb, rxref := rr, rxstate := rs, dataReceived := dr, dataSent := ds, txstate := ts,
               now := nw, held := hd, uncopied := uc } := by
  rcases s.applyMove_cases m h with ⟨ms, -, e⟩ | ⟨-, e⟩ | ⟨-, c, r, -, e⟩ | ⟨-, -, e⟩ <;> rw [e]
  · exact ⟨s.xbuf, s.rxref, s.rxstate, s.dataReceived, s.dataSent, s.txstate, _, s.held, s.uncopied, rfl⟩
  · exact ⟨s.xbuf, s.rxref, s.rxstate, s.dataReceived, s.dataSent, s.txstate, s.now, _, s.uncopied, rfl⟩
  · exact ⟨_, _, _, _, s.dataSent, s.txstate, s.now, s.held, _, rfl⟩
  · exact ⟨s.xbuf, s.rxref, s.rxstate, s.dataReceived, _, _, s.now, s.held, s.uncopied, rfl⟩

theorem State.applyMoves_frame (ms : List Move) (s : State) (h : ms.all Move.notReset = true) :
    ∃ xb rr rs dr ds ts nw hd uc, ms.foldl State.applyMove s =
      { s with xbuf := xb, rxref := rr, rxstate := rs, dataReceived := dr, dataSent := ds, txstate := ts,
               now := nw, held := hd, uncopied := uc } := by
  induction ms generalizing s with
  | nil =>
    exact ⟨s.xbuf, s.rxref, s.rxstate, s.dataReceived, s.dataSent, s.txstate, s.now, s.held,
      s.uncopied, rfl⟩
  | cons m ms ih =>
    simp only [List.all_cons, Bool.and_eq_true] at h
    obtain ⟨a, b, c, d, e, f, g, k, u, h1⟩ := s.applyMove_frame m h.1
    obtain ⟨a', b', c', d', e', f', g', k', u', h2⟩ := ih (s.applyMove m) h.2
    exact ⟨a', b', c', d', e', f', g', k', u', by rw [List.foldl_cons, h2, h1]⟩

/-- What a turn without a reset leaves: it uses up the turn, and changes only XBUF, RXREF, RXSTATE,
DATA_RECEIVED, DATA_SENT, TXSTATE, NOW, the held-back notifications and the ghost
`uncopied`. -/
theorem State.environment_frame (s : State) (h : s.noResetInTurn = true) :
    ∃ xb rr rs dr ds ts nw hd uc, s.environment =
      { s with xbuf := xb, rxref := rr, rxstate := rs, dataReceived := dr, dataSent := ds, txstate := ts,
               now := nw, held := hd, uncopied := uc, env := s.env.tail } := by
  obtain ⟨a, b, c, d, e, f, g, k, u, h1⟩ :=
    State.applyMoves_frame (s.held ++ s.turnMoves) { s with held := [], env := s.env.tail } h
  exact ⟨a, b, c, d, e, f, g, k, u, h1⟩

/-- No move touches the schedule, the configuration or the caller's requests. -/
theorem State.applyMove_keeps (s : State) (m : Move) :
    (s.applyMove m).env = s.env ∧ (s.applyMove m).cfg = s.cfg ∧ (s.applyMove m).reqs = s.reqs ∧
    (s.applyMove m).txLog = s.txLog ∧ (s.applyMove m).txout = s.txout ∧ (s.applyMove m).out = s.out ∧
    (s.applyMove m).inBuf = s.inBuf := by
  cases m <;> simp only [State.applyMove] <;> (try split) <;> simp

theorem State.applyMoves_keeps (ms : List Move) (s : State) :
    (ms.foldl State.applyMove s).env = s.env ∧ (ms.foldl State.applyMove s).cfg = s.cfg ∧
    (ms.foldl State.applyMove s).reqs = s.reqs ∧ (ms.foldl State.applyMove s).txLog = s.txLog ∧
    (ms.foldl State.applyMove s).txout = s.txout ∧ (ms.foldl State.applyMove s).out = s.out ∧
    (ms.foldl State.applyMove s).inBuf = s.inBuf := by
  induction ms generalizing s with
  | nil => simp
  | cons m ms ih =>
    have h1 := s.applyMove_keeps m
    have h2 := ih (s.applyMove m)
    simp_all

@[simp] theorem State.environment_env (s : State) : s.environment.env = s.env.tail :=
  (State.applyMoves_keeps _ _).1
@[simp] theorem State.environment_cfg (s : State) : s.environment.cfg = s.cfg :=
  (State.applyMoves_keeps _ _).2.1
@[simp] theorem State.environment_reqs (s : State) : s.environment.reqs = s.reqs :=
  (State.applyMoves_keeps _ _).2.2.1
@[simp] theorem State.environment_txLog (s : State) : s.environment.txLog = s.txLog :=
  (State.applyMoves_keeps _ _).2.2.2.1
@[simp] theorem State.environment_txout (s : State) : s.environment.txout = s.txout :=
  (State.applyMoves_keeps _ _).2.2.2.2.1
@[simp] theorem State.environment_out (s : State) : s.environment.out = s.out :=
  (State.applyMoves_keeps _ _).2.2.2.2.2.1
@[simp] theorem State.environment_inBuf (s : State) : s.environment.inBuf = s.inBuf :=
  (State.applyMoves_keeps _ _).2.2.2.2.2.2

/-- A property that every move keeps, a turn keeps; it must not speak of the schedule or of the
notifications held back. -/
theorem State.environment_keeps (P : State → Prop)
    (hset : ∀ s hd ev, P s → P { s with held := hd, env := ev })
    (hmove : ∀ s m, P s → P (s.applyMove m)) (s : State) (h : P s) : P s.environment := by
  have : ∀ (ms : List Move) (u : State), P u → P (ms.foldl State.applyMove u) := by
    intro ms
    induction ms with
    | nil => exact fun u hu => hu
    | cons m ms ih => exact fun u hu => ih _ (hmove u m hu)
  exact this _ _ (hset s [] s.env.tail h)

/-- A move that is no reset commutes with any change of the sequencer's state. -/
theorem State.applyMove_setFg (s : State) (f : Foreground) (m : Move) (h : m.notReset = true) :
    ({ s with fg := f } : State).applyMove m = { s.applyMove m with fg := f } := by
  cases m with
  | rx c r => cases hq : s.irqOff <;> simp [State.applyMove, hq, State.chunkReceived]
  | tx => cases hq : s.irqOff <;> simp [State.applyMove, hq, State.chunkConsumed]
  | tick ms => rfl
  | rst => simp [Move.notReset] at h

theorem State.applyMoves_setFg (f : Foreground) (ms : List Move) (s : State)
    (h : ms.all Move.notReset = true) :
    ms.foldl State.applyMove { s with fg := f } = { ms.foldl State.applyMove s with fg := f } := by
  induction ms generalizing s with
  | nil => rfl
  | cons m ms ih =>
    simp only [List.all_cons, Bool.and_eq_true] at h
    rw [List.foldl_cons, State.applyMove_setFg s f m h.1, ih _ h.2, List.foldl_cons]

/-- A turn without a reset commutes with any change of the sequencer's state. -/
theorem State.environment_setFg (s : State) (f : Foreground) (h : s.noResetInTurn = true) :
    ({ s with fg := f } : State).environment = { s.environment with fg := f } := by
  exact State.applyMoves_setFg f (s.held ++ s.turnMoves) { s with held := [], env := s.env.tail } h

end Sys2Proof.Machine
end

