-- ==== Sys2Proof/Laws/Memory.lean ====
section
/-! SUPPORT. The laws of the sparse byte space: what a read gives after a write, and that a write keeps the canonical form. -/

namespace Sys2Proof.Machine

open Sys2Proof

/-- A read after a write: the byte written at its address, and the byte of before elsewhere. -/
theorem Memory.read_write (m : Memory) (a : Nat) (x : Byte) (b : Nat) :
    (Memory.write m a x).read b = if b = a then some x else Memory.read m b := by
  induction m with
  | nil => simp [Memory.write, Memory.read]
  | cons c rest ih =>
    obtain ⟨k, v⟩ := c
    simp only [Memory.write]
    split
    · simp [Memory.read]
    · split
      · subst_vars
        by_cases h : b = k <;> simp [Memory.read, h]
      · by_cases h : b = k
        · subst h
          have : ¬ b = a := fun e => by omega
          simp [Memory.read, this]
        · simp [Memory.read, h, ih]

@[simp] theorem Memory.read_write_same (m : Memory) (a : Nat) (x : Byte) :
    (Memory.write m a x).read a = some x := by
  simp [Memory.read_write]

theorem Memory.read_write_other (m : Memory) (a : Nat) (x : Byte) (b : Nat) (h : b ≠ a) :
    (Memory.write m a x).read b = Memory.read m b := by
  simp [Memory.read_write, h]

/-- The canonical form of a space with a first entry. -/
theorem Memory.wf_cons (a : Nat) (v : Byte) (m : Memory) :
    Memory.wf ((a, v) :: m) = true ↔ (∀ c ∈ m.head?, a < c.1) ∧ Memory.wf m = true := by
  cases m with
  | nil => simp [Memory.wf]
  | cons c rest => obtain ⟨b, w⟩ := c; simp [Memory.wf]

/-- The first address of a space after a write. -/
theorem Memory.head_write (m : Memory) (a : Nat) (x : Byte) :
    ∀ c ∈ (Memory.write m a x).head?, c.1 = a ∨ c.1 ∈ (m.head?).map Prod.fst := by
  cases m with
  | nil => simp [Memory.write]
  | cons c rest =>
    obtain ⟨b, w⟩ := c
    simp only [Memory.write]
    split
    · simp
    · split
      · simp
      · simp

/-- Every write keeps the canonical form. -/
theorem Memory.write_wf (m : Memory) (a : Nat) (x : Byte) (h : Memory.wf m = true) :
    Memory.wf (Memory.write m a x) = true := by
  induction m with
  | nil => rfl
  | cons c rest ih =>
    obtain ⟨b, w⟩ := c
    have hr := (Memory.wf_cons b w rest).1 h
    simp only [Memory.write]
    split
    · rename_i hab
      exact (Memory.wf_cons a x _).2 ⟨by simpa using hab, h⟩
    · split
      · rename_i hab
        subst hab
        exact (Memory.wf_cons a x rest).2 hr
      · rename_i h1 h2
        refine (Memory.wf_cons b w _).2 ⟨fun c hc => ?_, ih hr.2⟩
        rcases Memory.head_write rest a x c hc with e | e
        · omega
        · simp only [Option.mem_def, Option.map_eq_some_iff] at e
          obtain ⟨d, hd, e⟩ := e
          have := hr.1 d (by simpa using hd)
          omega

/-- Storing a byte into OUT keeps its canonical form. -/
theorem State.storeOut_wf (s : State) (k : Nat) (b : Byte) (h : Memory.wf s.out = true) :
    Memory.wf (s.storeOut k b).out = true := Memory.write_wf _ _ _ h

/-- OUT is in its canonical form after reset. -/
theorem State.ofConfig_out_wf (c : Config) : Memory.wf (State.ofConfig c).out = true := rfl

/-- One byte of OUT after a store. -/
theorem State.byteAt_storeOut (s : State) (k : Nat) (b : Byte) (a : Nat) :
    (s.storeOut k b).byteAt .out a = if a = k then some b else s.byteAt .out a :=
  Memory.read_write _ _ _ _

end Sys2Proof.Machine
end

