-- ==== Sys2Proof/Laws/PerInstr.lean ====
section
/-! SUPPORT. The fields of a request word, and one lemma per operation: its word has its operation code and its operand field where 30 R70 puts them. -/

namespace Sys2Proof

/-- The operation code of a word is its upper four bits. -/
theorem opField_append (op : BitVec 4) (arg : Half) : opField (op ++ arg) = op := by
  apply BitVec.eq_of_getLsbD_eq
  intro i hi
  have h : ¬ 16 + i < 16 := by omega
  have e : 16 + i - 16 = i := by omega
  simp only [opField, BitVec.getLsbD_extractLsb', BitVec.getLsbD_append, h, e, hi, decide_true,
    Bool.true_and, if_false]

/-- The operand field of a word is its lower sixteen bits. -/
theorem argField_append (op : BitVec 4) (arg : Half) : argField (op ++ arg) = arg := by
  apply BitVec.eq_of_getLsbD_eq
  intro i hi
  simp only [argField, BitVec.getLsbD_extractLsb', BitVec.getLsbD_append, Nat.zero_add, hi, decide_true,
    Bool.true_and, if_true]

/-- A word is its two fields. -/
theorem append_fields (w : RequestWord) : opField w ++ argField w = w := by
  apply BitVec.eq_of_getLsbD_eq
  intro i hi
  simp only [opField, argField, BitVec.getLsbD_append, BitVec.getLsbD_extractLsb']
  by_cases h : i < 16
  · simp [h]
  · have : 16 + (i - 16) = i := by omega
    simp [h, this]
    omega

end Sys2Proof

namespace Sys2Proof.Laws.RequestFields

open Sys2Proof

/-- The word of a well-formed operation has the operation's code in `op` and its operands in `arg`. -/
def Statement (i : Instr) : Prop :=
  i.wellFormed = true → opField (encode i) = opcode i ∧ argField (encode i) = operandField i

theorem fields (i : Instr) : Statement i := fun _ => ⟨opField_append _ _, argField_append _ _⟩

theorem reserved0 : Statement .reserved0 := fields _
theorem setrx (s : BitVec 4) : Statement (.setrx s) := fields _
theorem settx (s : BitVec 4) : Statement (.settx s) := fields _
theorem rxacc : Statement .rxacc := fields _
theorem rdb : Statement .rdb := fields _
theorem rxdone : Statement .rxdone := fields _
theorem rdp (cap : Half) : Statement (.rdp cap) := fields _
theorem rdp16 : Statement .rdp16 := fields _
theorem rds (cap : Half) : Statement (.rds cap) := fields _
theorem rstart (cmd n : Byte) : Statement (.rstart cmd n) := fields _
theorem wrb (d : Byte) : Statement (.wrb d) := fields _
theorem wrp (len : Byte) : Statement (.wrp len) := fields _
theorem wrp16 (len : Half) : Statement (.wrp16 len) := fields _
theorem rend : Statement .rend := fields _
theorem flush (ind : Byte) : Statement (.flush ind) := fields _
theorem imask (m : BitVec 1) : Statement (.imask m) := fields _

end Sys2Proof.Laws.RequestFields
end

