-- ==== Sys2Proof/Laws/Sequencer.lean ====
section
/-! SUPPORT. Runs of the sequencer: how atomic steps chain into an operation. -/

namespace Sys2Proof.Machine

open Sys2Proof

@[simp] theorem State.idle_of_idle (s : State) (h : s.fg = .idle) : s.idle = true := by
  simp [State.idle, h]

theorem State.idle_iff (s : State) : s.idle = true ↔ s.fg = .idle := by
  cases h : s.fg <;> simp [State.idle, h]

theorem State.idle_false (s : State) (op : Instr) (r : Half) (next : Label) (back : List Label)
    (h : s.fg = .running op r next back) : s.idle = false := by
  simp [State.idle, h]

@[simp] theorem State.foreground_idle (s : State) (h : s.fg = .idle) : s.foreground = .next s := by
  simp [State.foreground, h]

theorem State.foreground_running (s : State) (op : Instr) (r : Half) (next : Label) (back : List Label)
    (h : s.fg = .running op r next back) : s.foreground = s.atomic op r next back := by
  simp [State.foreground, h]

theorem State.pauseDue_nil (s : State) (he : s.env = []) : s.pauseDue = false := by
  simp [State.pauseDue, he]

/-- Without a pause, a transition is a turn and then the foreground's step. -/
theorem State.advance_unpaused (s : State) (h : s.pauseDue = false) :
    s.advance = s.environment.foreground := by
  simp [State.advance, h]

/-- A turn that is a pause is a transition by itself. -/
theorem State.advance_paused (s : State) (h : s.pauseDue = true) : s.advance = .next s.environment := by
  simp [State.advance, h]

/-- With the environment silent, a transition is the foreground's step alone. -/
theorem State.advance_quiet (s : State) (he : s.env = []) (hh : s.held = []) :
    s.advance = s.foreground := by
  rw [s.advance_unpaused (s.pauseDue_nil he), s.environment_quiet he hh]

/-- So many transitions lead from one state to another, with no pause and the operation still in progress
after each. -/
inductive Reaches : Nat → State → State → Prop where
  | refl (s : State) : Reaches 0 s s
  | step {n : Nat} {s t u : State} (hp : s.pauseDue = false) (ha : s.advance = .next t)
      (ht : t.idle = false) (h : Reaches n t u) : Reaches (n + 1) s u

theorem Reaches.one {s t : State} (hp : s.pauseDue = false) (ha : s.advance = .next t)
    (ht : t.idle = false) : Reaches 1 s t :=
  .step hp ha ht (.refl t)

theorem Reaches.trans {n m : Nat} {s t u : State} (h : Reaches n s t) (k : Reaches m t u) :
    Reaches (n + m) s u := by
  induction h with
  | refl s => simpa using k
  | @step n s t _ hp ha ht _ ih =>
    have := Reaches.step hp ha ht (ih k)
    rwa [Nat.add_right_comm] at this

/-- A run goes on from where the transitions lead. -/
theorem State.runOn_reaches {k : Nat} {s t : State} (h : Reaches k s t) (n : Nat) :
    s.runOn (k + n) = t.runOn n := by
  induction h with
  | refl s => simp
  | @step k s t _ hp ha ht _ ih =>
    rw [Nat.add_right_comm, State.runOn, ha]
    simp [hp, ht, ih]

/-- A run ends with the transition that leaves the sequencer idle. -/
theorem State.runOn_ends {s t : State} (n : Nat) (ha : s.advance = .next t) (ht : t.fg = .idle) :
    s.runOn (n + 1) = .next t := by
  simp [State.runOn, ha, ht]

/-- A run that reaches a state whose next transition ends the operation answers that transition's state. -/
theorem State.runOn_completes {k m : Nat} {s t u : State} (h : Reaches k s t) (ha : t.advance = .next u)
    (hu : u.fg = .idle) (hm : k < m) : s.runOn m = .next u := by
  obtain ⟨n, rfl⟩ : ∃ n, m = k + (n + 1) := ⟨m - k - 1, by omega⟩
  rw [State.runOn_reaches h, State.runOn_ends n ha hu]

/-- An accepted operation that reaches a state whose next transition ends it answers that state. -/
theorem State.perform_completes {k : Nat} {s t u : State} {op : Instr} {first : Label} {back : List Label}
    (hi : s.fg = .idle) (h : Reaches k (s.goTo op first back) t) (ha : t.advance = .next u)
    (hu : u.fg = .idle) (hk : k < 1048576) : s.perform op first back = .next u := by
  simp only [State.perform, hi]
  exact State.runOn_completes h ha hu (by simp [State.budget]; omega)

/-- A request presented while an operation is in progress is not accepted. -/
theorem State.perform_busy (s : State) (op op' : Instr) (r : Half) (next first : Label)
    (back back' : List Label) (h : s.fg = .running op' r next back') :
    s.perform op first back = .next s := by
  simp [State.perform, h]

/-- One transition with the environment silent that does not end the operation. -/
theorem Reaches.quiet {s t : State} {op op' : Instr} {r r' : Half} {next next' : Label}
    {back back' : List Label} (he : s.env = []) (hh : s.held = [])
    (hs : s.fg = .running op r next back) (ha : s.atomic op r next back = .next t)
    (ht : t.fg = .running op' r' next' back') : Reaches 1 s t := by
  refine Reaches.one (s.pauseDue_nil he) ?_ (t.idle_false _ _ _ _ ht)
  rw [s.advance_quiet he hh, s.foreground_running _ _ _ _ hs, ha]

/-- A property that every transition keeps, a run keeps. -/
theorem State.runOn_keeps (P : State → Prop) (hadv : ∀ s t, P s → s.advance = .next t → P t) (n : Nat)
    (s t : State) (h : P s) (hr : s.runOn n = .next t) : P t := by
  induction n generalizing s with
  | zero => simp only [State.runOn, Host.Outcome.next.injEq] at hr; exact hr ▸ h
  | succ n ih =>
    rw [State.runOn] at hr
    cases ha : s.advance with
    | next u =>
      simp only [ha] at hr
      split at hr
      · simp only [Host.Outcome.next.injEq] at hr; exact hr ▸ hadv s u h ha
      · exact ih u (hadv s u h ha) hr
    | fault f => simp [ha] at hr
    | refused r => simp [ha] at hr

/-- A property that every move of the environment and every atomic step keeps, every transition keeps. -/
theorem State.advance_keeps (P : State → Prop) (henv : ∀ s, P s → P s.environment)
    (hfg : ∀ s t, P s → s.foreground = .next t → P t) (s t : State) (h : P s)
    (ha : s.advance = .next t) : P t := by
  cases hp : s.pauseDue with
  | true =>
    rw [s.advance_paused hp, Host.Outcome.next.injEq] at ha
    exact ha ▸ henv s h
  | false => exact hfg _ _ (henv s h) (s.advance_unpaused hp ▸ ha)

/-- Where the next turn is a pause, a run is that turn alone: whatever the turn does is seen before the next
atomic step. -/
theorem State.runOn_paused (s : State) (n : Nat) (h : s.pauseDue = true) :
    s.runOn (n + 1) = .next s.environment := by
  simp [State.runOn, s.advance_paused h, h]

/-- Where the next turn is a pause, an accepted operation stands at its first step after the turn. -/
theorem State.perform_paused (s : State) (op : Instr) (first : Label) (back : List Label)
    (hi : s.fg = .idle) (h : s.pauseDue = true) :
    s.perform op first back = .next (s.goTo op first back).environment := by
  simp only [State.perform, hi]
  rw [show s.budget = (1048575 + s.env.length) + 1 by simp only [State.budget]; omega]
  exact State.runOn_paused _ _ h

end Sys2Proof.Machine
end

