-- ==== Sys2Proof/Laws/Quiet.lean ====
section
/-! SUPPORT. The primitives RDB, FLUSH and WRB while the environment is silent, called from any operation: what each leads to, and in how many transitions. -/

namespace Sys2Proof.Machine

open Sys2Proof

/-- So many transitions and one more lead from one state to another; the last one may end the operation. -/
def Leads (n : Nat) (s t : State) : Prop := ∃ u, Reaches n s u ∧ u.pauseDue = false ∧ u.advance = .next t

theorem Leads.after {a b : Nat} {s t u : State} (h : Reaches a s t) (k : Leads b t u) :
    Leads (a + b) s u := by
  obtain ⟨w, hw, hp, ha⟩ := k
  exact ⟨w, h.trans hw, hp, ha⟩

/-- A lead whose last transition does not end the operation is one transition more. -/
theorem Leads.reaches {n : Nat} {s t : State} (h : Leads n s t) (ht : t.idle = false) :
    Reaches (n + 1) s t := by
  obtain ⟨u, hu, hp, ha⟩ := h
  exact hu.trans (.one hp ha ht)

/-- An accepted operation that leads to an idle state answers it. -/
theorem State.perform_leads {k : Nat} {s t : State} {op : Instr} {first : Label} {back : List Label}
    (hi : s.fg = .idle) (h : Leads k (s.goTo op first back) t) (ht : t.fg = .idle) (hk : k < 1048576) :
    s.perform op first back = .next t := by
  obtain ⟨u, hu, -, ha⟩ := h
  exact State.perform_completes hi hu ha ht hk

/-- The last transition while the environment is silent. -/
theorem Leads.quiet {s t : State} {op : Instr} {r : Half} {next : Label} {back : List Label}
    (he : s.env = []) (hh : s.held = []) (hs : s.fg = .running op r next back)
    (ha : s.atomic op r next back = .next t) : Leads 0 s t :=
  ⟨s, .refl s, s.pauseDue_nil he, by rw [s.advance_quiet he hh, s.foreground_running _ _ _ _ hs, ha]⟩

/-- An operation that reaches a state and leads on from it to an idle state answers that. -/
theorem Leads.step {n : Nat} {s t u : State} {op op' : Instr} {r r' : Half} {next next' : Label}
    {back back' : List Label} (he : s.env = []) (hh : s.held = [])
    (hs : s.fg = .running op r next back) (ha : s.atomic op r next back = .next t)
    (ht : t.fg = .running op' r' next' back') (h : Leads n t u) : Leads (1 + n) s u :=
  Leads.after (Reaches.quiet he hh hs ha ht) h

/-! ## RDB (41 R102) -/

/-- RDB inside a chunk (41 R105): two transitions. -/
theorem rdb_in_chunk_leads {s : State} {op : Instr} {r : Half} {back : List Label} {v : Byte}
    (he : s.env = []) (hh : s.held = []) (hs : s.fg = .running op r .b1 back)
    (hv : s.rxbuf[s.rxpos.toNat]? = some v) :
    Leads 1 s ({ s with rxpos := s.rxpos + 1 }.finish op (byteResult v) back) := by
  have hlt : s.rxpos.toNat < 32 := by
    rw [Vector.getElem?_eq_some_iff] at hv
    exact hv.1
  refine Leads.step (t := s.goTo op .b9 back) he hh hs ?_ rfl (Leads.quiet he hh rfl ?_)
  · simp [State.atomic, stepB1, hlt]
  · simp only [State.atomic, stepB9, State.goTo_rxbuf, State.goTo_rxpos, hv]
    cases back <;> rfl

/-- RDB at the boundary of a chunk not tagged IND_CONTINUES (41 R102 B2): two transitions, and the whole
operation ends. -/
theorem rdb_closed_leads {s : State} {op : Instr} {r : Half} {back : List Label}
    (he : s.env = []) (hh : s.held = []) (hs : s.fg = .running op r .b1 back) (hc : s.readClosed) :
    Leads 1 s (s.fail .noContinuation) := by
  obtain ⟨hp, hn⟩ := hc
  refine Leads.step (t := s.goTo op .b2 back) he hh hs ?_ rfl (Leads.quiet he hh rfl ?_)
  · have : ¬ s.rxpos.toNat < 32 := by omega
    simp [State.atomic, stepB1, this]
  · simp only [State.atomic, stepB2, State.goTo_rxbuf, State.goTo_cfg, hn, if_false]
    rfl

/-! ## FLUSH (42 R134) -/

theorem expired_refl (timeout now : Millis) : expired timeout (now + timeout) now = true := by
  simp [expired]

/-- A poll that stays, the schedule exhausted: the time is the deadline (log 8). -/
theorem State.stay_exhausted (s : State) (timeout : Millis) (he : s.env = []) :
    s.stay timeout = { s with now := s.t0 + timeout } := by
  unfold State.stay
  rw [if_pos (by simp [he])]

/-- A poll that stays, the schedule not exhausted: nothing changes. -/
theorem State.stay_scheduled (s : State) (timeout : Millis) (he : s.env ≠ []) : s.stay timeout = s := by
  unfold State.stay
  rw [if_neg (by simpa using he)]

/-- FLUSH from the hand-off on: two transitions. -/
theorem flush_from_handOff_leads {s : State} {op : Instr} {r : Half} {back : List Label}
    (he : s.env = []) (hh : s.held = []) (hs : s.fg = .running op r .f4 back) :
    Leads 1 s ({ s.handOff with txpos := 0 }.finish op 0 back) := by
  refine Leads.step (t := s.handOff.goTo op .f5 back) he hh hs rfl rfl (Leads.quiet he hh rfl ?_)
  simp only [State.atomic, stepF5]
  cases back <;> rfl

/-- FLUSH's wait while the environment is silent, DATA_SENT = 1. -/
theorem flush_wait_sent_leads {s : State} {op : Instr} {r : Half} {back : List Label}
    (he : s.env = []) (hh : s.held = []) (hs : s.fg = .running op r .f3 back) (hd : s.dataSent = true) :
    Leads 2 s ({ s.handOff with txpos := 0 }.finish op 0 back) := by
  refine Leads.step (n := 1) (t := s.goTo op .f4 back) he hh hs ?_ rfl ?_
  · simp only [State.atomic, stepF3, hd, if_true]
  · have := flush_from_handOff_leads (s := s.goTo op .f4 back) he hh rfl
    cases back <;> exact this

/-- FLUSH's wait while the environment is silent, the deadline reached. -/
theorem flush_wait_expired_leads {s : State} {op : Instr} {r : Half} {back : List Label}
    (he : s.env = []) (hh : s.held = []) (hs : s.fg = .running op r .f3 back) (hd : s.dataSent = false)
    (hx : expired s.cfg.txTimeoutMs s.now s.t0 = true) :
    Leads 2 s ({ { s with ackTimeouts := s.ackTimeouts + 1 }.handOff with txpos := 0 }.finish op 0 back) := by
  refine Leads.step (n := 1) (t := { s with ackTimeouts := s.ackTimeouts + 1 }.goTo op .f4 back)
    he hh hs ?_ rfl ?_
  · simp only [State.atomic, stepF3, hd, hx, if_true, if_false, Bool.false_eq_true]
  · have := flush_from_handOff_leads (s := { s with ackTimeouts := s.ackTimeouts + 1 }.goTo op .f4 back)
      he hh rfl
    cases back <;> exact this

/-- What FLUSH has done when its wait ran to the deadline in a silent environment and the hand-off followed. -/
def State.timedOut (s : State) : State :=
  { { s with
      now := s.now + s.cfg.txTimeoutMs
      ackTimeouts := s.ackTimeouts + 1 }.handOff with txpos := 0 }

theorem State.flushed_sent (s : State) (ind : Byte) (h0 : ¬ s.txpos = 0) (hd : s.dataSent = true) :
    s.flushed ind = { { s with ind := ind, t0 := s.now }.handOff with txpos := 0 } := by
  simp only [State.flushed, if_neg h0, hd, if_true]
  rfl

theorem State.flushed_unsent (s : State) (ind : Byte) (h0 : ¬ s.txpos = 0) (hd : s.dataSent = false) :
    s.flushed ind = ({ s with ind := ind, t0 := s.now } : State).timedOut := by
  simp only [State.flushed, if_neg h0, hd, if_false, Bool.false_eq_true]
  rfl

/-- FLUSH's wait while the environment is silent, DATA_SENT = 0: the timebase runs to the deadline. -/
theorem flush_wait_leads {s : State} {op : Instr} {r : Half} {back : List Label}
    (he : s.env = []) (hh : s.held = []) (hs : s.fg = .running op r .f3 back) (hd : s.dataSent = false)
    (ht : s.t0 = s.now) :
    ∃ n ≤ 3, Leads n s (s.timedOut.finish op 0 back) := by
  by_cases hx : expired s.cfg.txTimeoutMs s.now s.t0 = true
  · have hz : s.cfg.txTimeoutMs = 0 := by
      apply BitVec.eq_of_toNat_eq
      simpa [expired, ht] using hx
    have e : s.now + s.cfg.txTimeoutMs = s.now := by simp [hz]
    have := flush_wait_expired_leads he hh hs hd hx
    exact ⟨2, by omega, by rw [State.timedOut, e]; exact this⟩
  · refine ⟨1 + 2, by omega, Leads.step (n := 2)
      (t := { s with now := s.now + s.cfg.txTimeoutMs }.goTo op .f3 back) he hh hs ?_ rfl ?_⟩
    · simp only [State.atomic, stepF3]
      rw [if_neg (by simp [hd]), if_neg hx, s.stay_exhausted _ he, ht]
    · have := flush_wait_expired_leads (s := { s with now := s.now + s.cfg.txTimeoutMs }.goTo op .f3 back)
        he hh rfl hd (by simpa [State.goTo, ht] using expired_refl s.cfg.txTimeoutMs s.now)
      cases back <;> exact this

/-- FLUSH while the environment is silent: at most six transitions. -/
theorem flush_leads {s : State} {op : Instr} {r : Half} {ind : Byte} {back : List Label}
    (he : s.env = []) (hh : s.held = []) (hs : s.fg = .running op r (.f1 ind) back) :
    ∃ n ≤ 5, Leads n s ((s.flushed ind).finish op 0 back) := by
  by_cases h0 : s.txpos = 0
  · refine ⟨0, by omega, Leads.quiet he hh hs ?_⟩
    simp only [State.atomic, stepF1, State.flushed, if_pos h0]
  · have h2 : Reaches (1 + 1) s ({ s with ind := ind, t0 := s.now }.goTo op .f3 back) :=
      Reaches.trans
        (Reaches.quiet (t := { s with ind := ind }.goTo op .f2 back) he hh hs
          (by simp only [State.atomic, stepF1, if_neg h0]) rfl)
        (Reaches.quiet he hh rfl rfl rfl)
    cases hd : s.dataSent with
    | true =>
      have h3 := flush_wait_sent_leads (s := { s with ind := ind, t0 := s.now }.goTo op .f3 back)
        he hh rfl hd
      refine ⟨1 + 1 + 2, by omega, Leads.after h2 ?_⟩
      rw [s.flushed_sent ind h0 hd]
      cases back <;> exact h3
    | false =>
      obtain ⟨n, hn, h3⟩ := flush_wait_leads (s := { s with ind := ind, t0 := s.now }.goTo op .f3 back)
        he hh rfl hd rfl
      refine ⟨1 + 1 + n, by omega, Leads.after h2 ?_⟩
      rw [s.flushed_unsent ind h0 hd]
      cases back <;> exact h3

/-! ## WRB (42 R132) -/

/-- The fields FLUSH leaves alone while the environment is silent. -/
theorem State.flushed_frame (s : State) (ind : Byte) :
    (s.flushed ind).env = s.env ∧ (s.flushed ind).held = s.held ∧ (s.flushed ind).fg = s.fg ∧
    (s.flushed ind).txpos = 0 ∧ (s.flushed ind).cfg = s.cfg ∧ (s.flushed ind).i = s.i ∧
    (s.flushed ind).inBuf = s.inBuf ∧ (s.flushed ind).freeCount = s.freeCount := by
  unfold State.flushed
  split <;> simp_all

/-- FLUSH does not look at the sequencer's state. -/
theorem State.flushed_setFg (s : State) (ind : Byte) (f : Foreground) :
    ({ s with fg := f } : State).flushed ind = { s.flushed ind with fg := f } := by
  by_cases h : s.txpos = 0
  · rw [State.flushed, State.flushed, if_pos h, if_pos h]
  · rw [State.flushed, State.flushed, if_neg h, if_neg h]

theorem State.put_frame (s : State) (d : Byte) :
    (s.put d).env = s.env ∧ (s.put d).held = s.held ∧ (s.put d).fg = s.fg ∧ (s.put d).cfg = s.cfg ∧
    (s.put d).i = s.i ∧ (s.put d).inBuf = s.inBuf ∧ (s.put d).freeCount = s.freeCount := by
  simp [State.put]

theorem State.appended_frame (s : State) (d : Byte) :
    (s.appended d).env = s.env ∧ (s.appended d).held = s.held ∧ (s.appended d).fg = s.fg ∧
    (s.appended d).cfg = s.cfg ∧ (s.appended d).i = s.i ∧ (s.appended d).inBuf = s.inBuf ∧
    (s.appended d).freeCount = s.freeCount := by
  have hf := s.flushed_frame s.cfg.indContinues
  have hp := (s.flushed s.cfg.indContinues).put_frame d
  have hq := s.put_frame d
  unfold State.appended
  split <;> simp_all

/-- Appending a byte does not look at the sequencer's state. -/
theorem State.appended_setFg (s : State) (d : Byte) (f : Foreground) :
    ({ s with fg := f } : State).appended d = { s.appended d with fg := f } := by
  by_cases h : 31 ≤ s.txpos.toNat
  · rw [State.appended, State.appended, if_pos h, if_pos h, State.flushed_setFg]
    rfl
  · rw [State.appended, State.appended, if_neg h, if_neg h]
    rfl

theorem wrb_put_leads {s : State} {op : Instr} {r : Half} {d : Byte} {back : List Label}
    (he : s.env = []) (hh : s.held = []) (hs : s.fg = .running op r (.w2 d) back)
    (hp : s.txpos.toNat < 31) : Leads 0 s ((s.put d).finish op 0 back) := by
  refine Leads.quiet he hh hs ?_
  have : 1 + s.txpos.toNat < 32 := by omega
  simp [State.atomic, stepW2, this, State.put]

/-- WRB while the environment is silent: at most eight transitions. -/
theorem wrb_leads {s : State} {op : Instr} {r : Half} {d : Byte} {back : List Label}
    (he : s.env = []) (hh : s.held = []) (hs : s.fg = .running op r (.w1 d) back) :
    ∃ n ≤ 7, Leads n s ((s.appended d).finish op 0 back) := by
  by_cases hp : 31 ≤ s.txpos.toNat
  · have h1 : Reaches 1 s (s.goTo op (.f1 s.cfg.indContinues) (.w2 d :: back)) :=
      Reaches.quiet he hh hs (by simp [State.atomic, stepW1, hp]) rfl
    obtain ⟨n, hn, h2⟩ := flush_leads (s := s.goTo op (.f1 s.cfg.indContinues) (.w2 d :: back))
      (ind := s.cfg.indContinues) he hh rfl
    have h3 := h2.reaches rfl
    have hf := s.flushed_frame s.cfg.indContinues
    have e : ((s.goTo op (.f1 s.cfg.indContinues) (.w2 d :: back)).flushed s.cfg.indContinues).finish op 0
        (.w2 d :: back) = (s.flushed s.cfg.indContinues).goTo op (.w2 d) back := by
      rw [State.goTo, State.flushed_setFg]
      rfl
    rw [e] at h3
    have h4 : Leads 0 ((s.flushed s.cfg.indContinues).goTo op (.w2 d) back)
        ((s.appended d).finish op 0 back) := by
      have := wrb_put_leads (s := (s.flushed s.cfg.indContinues).goTo op (.w2 d) back) (op := op) (r := 0)
        (d := d) (back := back) (by simp [hf, he]) (by simp [hf, hh]) rfl (by simp [hf])
      simp only [State.appended, hp, if_true]
      cases back <;> exact this
    exact ⟨1 + (n + 1 + 0), by omega, Leads.after h1 (Leads.after h3 h4)⟩
  · refine ⟨1 + 0, by omega, Leads.step (t := s.goTo op (.w2 d) back) he hh hs ?_ rfl ?_⟩
    · simp [State.atomic, stepW1, hp]
    · have := wrb_put_leads (s := s.goTo op (.w2 d) back) (op := op) (r := 0) (d := d) (back := back)
        he hh rfl (by simp; omega)
      simp only [State.appended, hp, if_false]
      cases back <;> exact this

end Sys2Proof.Machine
end

