-- ==== Sys2Proof/Laws/Steps.lean ====
section
/-! SUPPORT. What one atomic step of the foreground can do, said once for each kind of state (10 R11, R14, R15, R22; 20 R42). -/

namespace Sys2Proof.Machine

open Sys2Proof

theorem State.storeClamped_frame (s : State) (b : Byte) :
    s.storeClamped b = { s with out := (s.storeClamped b).out } := by
  unfold State.storeClamped
  split <;> rfl

/-- Storing a byte within CAP keeps the canonical form of OUT. -/
theorem State.storeClamped_wf (s : State) (b : Byte) (h : Memory.wf s.out = true) :
    Memory.wf (s.storeClamped b).out = true := by
  unfold State.storeClamped
  split
  · exact s.storeOut_wf _ _ h
  · exact h

/-- What RDB's step B9 can do (41 R102). -/
theorem stepB9_cases (op : Instr) (back : List Label) (s : State) :
    (∃ v, s.rxbuf[s.rxpos.toNat]? = some v ∧
      stepB9 op back s = .next ({ s with rxpos := s.rxpos + 1 }.finish op (byteResult v) back)) ∨
    (32 ≤ s.rxpos.toNat ∧ stepB9 op back s = .fault .noSuchByte) := by
  unfold stepB9
  cases h : s.rxbuf[s.rxpos.toNat]? with
  | some v => exact .inl ⟨v, rfl, rfl⟩
  | none => exact .inr ⟨by simpa [Vector.getElem?_eq_none_iff] using h, rfl⟩

/-- What WRB's step W2 can do (42 R132). -/
theorem stepW2_cases (op : Instr) (d : Byte) (back : List Label) (s : State) :
    (s.txpos.toNat < 31 ∧ stepW2 op d back s = .next ((s.put d).finish op 0 back)) ∨
    (s.txpos.toNat = 31 ∧ stepW2 op d back s = .fault .noSuchByte) := by
  have hb : s.txpos.toNat < 32 := s.txpos.isLt
  unfold stepW2
  split
  · exact .inl ⟨by omega, rfl⟩
  · exact .inr ⟨by omega, rfl⟩

/-- No atomic step refuses, and one faults only at an index its buffer does not have. -/
theorem State.atomic_stops (s : State) (op : Instr) (r : Half) (next : Label) (back : List Label)
    (h : s.cursorAllows next = true) : ∃ t, s.atomic op r next back = .next t := by
  cases next <;> (try exact ⟨_, rfl⟩)
  · rcases stepB9_cases op back s with ⟨v, -, e⟩ | ⟨hp, -⟩
    · exact ⟨_, e⟩
    · simp [State.cursorAllows] at h; omega
  · rename_i d
    rcases stepW2_cases op d back s with ⟨-, e⟩ | ⟨hp, -⟩
    · exact ⟨_, e⟩
    · simp [State.cursorAllows] at h; omega

end Sys2Proof.Machine
end

