-- ==== Sys2Proof/Tests/Slice0.lean ====
section
/-! SUPPORT. Tests, their expected results taken from the vectors of spec 95 and the examples of the rules, and for every statement with hypotheses a state and operands that meet them. -/

namespace Sys2Proof.Tests

open Sys2Proof Sys2Proof.Machine

/-! ## Helpers -/

/-- The state an outcome goes on with. -/
def nextOf : Host.Outcome State Fault Refusal → Option State
  | .next t => some t
  | .fault _ => none
  | .refused _ => none

/-- The idle machine with a chunk in RXBUF and the cursor at an index. -/
def reading (bytes : List Byte) (pos : BitVec 6) : State :=
  { State.reset with rxbuf := padded bytes, rxpos := pos, rxstate := 0, dataReceived := true }

/-- The machine of `reading` in whose turns the environment does this. -/
def readingWith (bytes : List Byte) (pos : BitVec 6) (env : List Turn) : State :=
  { reading bytes pos with env := env, dataReceived := false }

/-- The idle machine with bytes in TXBUF from index 1 on. -/
def composing (bytes : List Byte) : State :=
  { State.reset with txbuf := padded (0 :: bytes), txpos := BitVec.ofNat 5 bytes.length }

/-- The idle machine with a delivered chunk. -/
def delivered (bytes : List Byte) : State := State.reset.chunkReceived (padded bytes) 0

/-- A state in the middle of an operation. -/
def middle (next : Label) : State := { State.reset with fg := .running .rdb 0 next [] }

/-! ## WellFormed -/

theorem test_default_config_valid : Config.default.valid = true := by decide
theorem test_equal_indicators_refused :
    ({ Config.default with indFinished := 0x01 } : Config).indicatorsDiffer = false := by decide
theorem test_sentinel_as_indicator_refused :
    ({ Config.default with indInvalid := 0x00 } : Config).valid = false := by decide
theorem test_equal_codes_refused :
    ({ Config.default with rxReady := 0x0 } : Config).codesDiffer = false := by decide
theorem test_status_too_far_left_refused :
    ({ Config.default with statusShift := 25 } : Config).statusFits = false := by decide
theorem test_long_timeout_refused :
    ({ Config.default with txTimeoutMs := 0x80000000 } : Config).timeoutsSmall = false := by decide
theorem test_short_supply_refused : (Instr.wrp 2).suppliedBy [0xAA] = false := by decide
theorem test_unnamed_rx_code : Config.default.namesRx 0x2 = false := by decide
theorem test_unnamed_tx_code : Config.default.namesTx 0x3 = false := by decide
theorem test_well_formed : (Instr.rstart 0x21 0x01).wellFormed = true := by decide

/-! ## Decode: request words written out from 30 R70 to R72, R77 -/

theorem test_decode_reserved0 : decode 0x00000 = .reserved0 := by decide
theorem test_decode_setrx : decode 0b0001_0000_0000_0000_1111 = .setrx 0xF := by decide
theorem test_decode_settx : decode 0x2ABC7 = .settx 0x7 := by decide
theorem test_decode_rxacc : decode 0x30000 = .rxacc := by decide
theorem test_decode_rdb : decode 0b0100_0000_0000_0000_0000 = .rdb := by decide
theorem test_decode_rxdone : decode 0x50000 = .rxdone := by decide
theorem test_decode_rdp : decode 0x60010 = .rdp 0x0010 := by decide
theorem test_decode_rdp16 : decode 0x70000 = .rdp16 := by decide
theorem test_decode_rds : decode 0x80020 = .rds 0x0020 := by decide
theorem test_decode_rstart : decode 0b1001_0010_0001_0000_0001 = .rstart 0x21 0x01 := by decide
theorem test_decode_wrb : decode 0xA00AA = .wrb 0xAA := by decide
theorem test_decode_wrp : decode 0xB0004 = .wrp 0x04 := by decide
theorem test_decode_wrp16 : decode 0xC012C = .wrp16 0x012C := by decide
theorem test_decode_rend : decode 0xD0000 = .rend := by decide
theorem test_decode_flush : decode 0xE0007 = .flush 0x07 := by decide
theorem test_decode_imask : decode 0xF0001 = .imask 1 := by decide
theorem test_decode_too_wide : decodeTableWord 24 0x100000 = none := by decide
theorem test_encode : encode (.rstart 0x21 0x01) = 0x92101 := by decide

/-! ## Status family (95, section 2) -/

theorem test_ST6_setrx : (nextOf (step (State.reset.withFetchWord 24 0x1000F))).map
    (fun t => (t.statusByte, t.res)) = some (0xF0, 0) := by decide
theorem test_ST7_settx : (nextOf (step (State.reset.withFetchWord 24 0x2ABC7))).map
    (fun t => (t.statusByte, t.dataSent)) = some (0x17, true) := by decide
theorem test_ST8_status_port :
    (State.ofConfig { Config.default with statusShift := 24 }).statusWord.toNat = 0x10000000 := by decide
theorem test_ST10_reserved : (nextOf (step (State.reset.withFetchWord 24 0x00000))).map
    (fun t => (t.res, t.cause, t.statusByte)) = some (0xFFFF, some .refused, 0x10) := by decide
theorem test_P4_imask_delays : (runCalls [(.imask 1, []), (.setrx 0, []), (.settx 1, [])]
    { State.reset with env := [⟨[], false⟩, ⟨[.tx], false⟩] }).map
    (fun t => (t.statusByte, t.held)) = some (0x01, [.tx]) := by decide
theorem test_P4_imask_ends : (runCalls [(.imask 0, []), (.setrx 1, [])]
    { State.reset with rxstate := 0, txstate := 1, irqOff := true, dataSent := false, held := [.tx] }).map
    (fun t => (t.statusByte, t.dataSent, t.held)) = some (0x10, true, []) := by decide

/-! ## Receive family (95, section 3) -/

theorem test_RV2_rxacc : (nextOf (exec .rxacc State.reset)).map
    (fun t => (t.res, t.cause, t.rxpos)) = some (0xFFFF, some .noChunk, 32) := by decide
theorem test_RV7_rxacc : (nextOf (exec .rxacc (delivered [2, 0xE0, 0x21, 0, 0xEE]))).map
    (fun t => (t.res, t.rxbuf[0], t.rxpos, t.dataReceived)) = some (0xFFFF, 2, 32, true) := by decide
theorem test_RV1_rdb : (nextOf (exec .rdb State.reset)).map
    (fun t => (t.res, t.cause)) = some (0xFFFF, some .noContinuation) := by decide
theorem test_S8_rdb_continues : (nextOf (exec .rdb (readingWith [1] 32
    (arrival [0, 0, 0, 0, 0, 0, 40] (padded [0, 0xEE]) 0)))).map
    (fun t => (t.res, t.rxpos, t.rxbuf[0], t.statusByte)) = some (0xEE, 2, 0, 0x00) := by decide
theorem test_RV6_rxdone : (nextOf (exec .rxdone (reading [0, 0xE0] 32))).map
    (fun t => (t.dataReceived, t.rxbuf[0], t.rxpos, t.statusByte)) = some (false, 0xFF, 32, 0x10) := by decide
theorem test_RV11_rdp : (nextOf (exec (.rdp 2) (reading [0, 4, 0xAA, 0xBB, 0xCC, 0xDD] 1))).map
    (fun t => (t.res, t.out, t.rxpos)) = some (2, [(0, 0xAA), (1, 0xBB)], 6) := by decide
theorem test_RV20_rdp :
    (nextOf (exec (.rdp 16) (reading (List.replicate 30 0 ++ [5, 0xAA]) 30))).map
    (fun t => (t.res, t.out, t.rxpos)) = some (0xFFFF, [(0, 0xAA)], 32) := by decide
theorem test_RV16_rdp16 : (nextOf (exec .rdp16 (reading [0, 3, 0x12, 0x34, 0x56] 1))).map
    (fun t => (t.res, t.cause, t.rxpos)) = some (0xFFFF, some .badLength, 2) := by decide
theorem test_RV21_rdp16 : (nextOf (exec .rdp16 (readingWith (1 :: List.replicate 30 0 ++ [2]) 31
    (List.replicate 5 ⟨[], false⟩ ++ arrival [0, 0, 0, 0, 0, 0] (padded [0, 0x12, 0x34, 0xEE]) 0)))).map
    (fun t => (t.res, t.out, t.rxpos, t.statusByte)) = some (0, [(0, 0x12), (1, 0x34)], 3, 0x00) := by decide
theorem test_RV14_value : param16Value Config.default 0x12 0x34 = 0x1234 := by decide
theorem test_RV18_rds : (nextOf (exec (.rds 2) (reading [0, 3, 0x61, 0x62, 0x63] 1))).map
    (fun t => (t.res, t.out, t.rxpos)) = some (2, [(0, 0x61), (1, 0x62), (2, 0)], 5) := by decide
theorem test_RV19_rds : (nextOf (exec (.rds 0x20) (reading [0, 0] 1))).map
    (fun t => (t.res, t.out, t.rxpos)) = some (0, [(0, 0)], 2) := by decide

/-! ## Transmit family (95, section 4) -/

theorem test_T1_rstart : (nextOf (step (State.reset.withFetchWord 24 0x92101))).map
    (fun t => (t.txbuf[1], t.txbuf[2], t.txbuf[3], t.txpos, t.statusByte)) =
      some (0xE0, 0xA1, 0x01, 3, 0x12) := by decide
theorem test_T13_rstart : (nextOf (exec (.rstart 0x21 0) (composing [1, 2, 3, 4, 5, 6, 7]))).map
    (fun t => (t.txpos, t.txLog)) = some (3, []) := by decide
theorem test_R132_wrb : (nextOf (exec (.wrb 0xEE) (composing (List.replicate 31 0x55)))).map
    (fun t => (t.txpos, t.txbuf[1], t.txLog)) =
      some (1, 0xEE, [0x01 :: List.replicate 31 0x55]) := by decide
theorem test_R136_wrp : (nextOf (exec (.wrp 4)
    { composing [0xE0, 0xA1, 1] with inBuf := [0xAA, 0xBB, 0xCC, 0xDD] })).map
    (fun t => (t.txpos, t.txbuf[4], t.txbuf[8])) = some (8, 0x04, 0xDD) := by decide
/-- 30 R79 (g): the loop counter runs from 0 to len-1. While byte 1 is appended I is 1, and 3 after the last. -/
theorem test_R79_counter : (nextOf (exec (.wrp 4) { composing [] with
    inBuf := [0xAA, 0xBB, 0xCC, 0xDD], env := List.replicate 8 ⟨[], false⟩ ++ [⟨[], true⟩] })).map
    (fun t => (t.fg, t.i)) = some (.running (.wrp 4) 0 (.w2 0xBB) [.dataLoop 4, .dataDone], 1) ∧
    (nextOf (exec (.wrp 4) { composing [] with inBuf := [0xAA, 0xBB, 0xCC, 0xDD] })).map State.i = some 3 := by
  decide
theorem test_T14_wrp : (nextOf (exec (.wrp 0) (composing [0xE0, 0xA1, 1]))).map
    (fun t => (t.txpos, t.txbuf[4])) = some (4, 0x00) := by decide
theorem test_R138_wrp16 : (nextOf (exec (.wrp16 2)
    { composing [0xE0, 0xA1, 1] with inBuf := [0xAA, 0xBB] })).map
    (fun t => (t.txpos, t.txbuf[4], t.txbuf[5], t.txbuf[7])) = some (7, 0x00, 0x02, 0xBB) := by decide
theorem test_T4_rend : (nextOf (exec .rend (composing [0xE0, 0xA1, 0]))).map
    (fun t => (t.txout, t.txpos, t.dataSent, t.statusByte)) =
      some ([0, 0xE0, 0xA1, 0, 0xEE], 0, false, 0x11) := by decide
theorem test_T8_rend :
    (nextOf (exec .rend { composing [0xE0, 0xA2, 0] with dataSent := false, now := 7 })).map
    (fun t => (t.txout, t.res, t.ackTimeouts, t.now)) =
      some ([0, 0xE0, 0xA2, 0, 0xEE], 0, 1, 1007) := by decide
theorem test_T3_flush : (nextOf (exec (.flush 0) State.reset)).map
    (fun t => (t.txLog, t.statusByte, t.dataSent)) = some ([], 0x10, true) := by decide
theorem test_T12_flush : (nextOf (exec (.flush 7) (composing [0x11, 0x22]))).map
    (fun t => (t.txout, t.txpos)) = some ([7, 0x11, 0x22], 0) := by decide

/-! ## Events, waits, time (95, section 5) -/

theorem test_E1_ev_rx : (delivered [9]).statusByte = 0x00 ∧ (delivered [9]).xbuf[0] = 9 ∧
    (delivered [9]).dataReceived = true ∧ (delivered [9]).rxpos = 32 := by decide
theorem test_E4_ev_tx : ({ State.reset with txstate := 2, dataSent := false }.applyMove .tx).statusByte = 0x10 := by
  decide
theorem test_E5_poll_stays : expired 250 1249 1000 = false := by decide
theorem test_E9_poll_wraps : expired 250 0 0xFFFFFF00 = true := by decide
theorem test_reset_ends_an_operation : (nextOf (exec .rdb (readingWith [1] 32
    [⟨[], false⟩, ⟨[.rst], false⟩]))).map (fun t => (t.fg, t.rxpos, t.statusByte)) =
      some (.idle, 32, 0x10) := by decide
/-- The state after an event and before the next step: RDB stands at B6 and the status shows RX_BUSY. -/
theorem test_R5_event_alone : (nextOf (exec .rdb (readingWith [1] 32
    (List.replicate 5 ⟨[], false⟩ ++ [⟨[.rx (padded [0]) 0], true⟩])))).map (fun t => (t.fg, t.statusByte)) =
      some (.running .rdb 0 .b6 [], 0x00) := by decide
theorem test_peer_reads_padding : (nextOf (exec .rend (composing [0xE0, 0xA1, 0]))).map
    (fun t => (t.peerChunk.length, t.peerChunk[5]?)) = some (32, some 0) := by decide
theorem test_memory_canonical :
    Memory.wf [(1, 0), (1, 0)] = false ∧ Memory.write [(2, 9)] 1 7 = [(1, 7), (2, 9)] := by decide

/-! ## Witnesses: for every statement with hypotheses, a state and operands that meet them together -/

/-- A state whose next turns hold two notifications, a long time and a notification more. -/
def busyWorld : State :=
  { State.reset with env := [⟨[.rx (padded [1]) 0, .tx], false⟩, ⟨[.tick 0xFFFFFFFF], false⟩, ⟨[.tx], false⟩] }

/-- A state whose next turn is a pause. -/
def pausedWorld : State := { State.reset with env := [⟨[.tx], true⟩] }

/-- The second chunk of a message, in time: five turns with time 0 pass before it. -/
def prompt (bytes : List Byte) : Delivery := ⟨[0, 0, 0, 0, 0], padded bytes, 0⟩

theorem prompt_inTime (bytes : List Byte) : (prompt bytes).inTime Config.default :=
  ⟨Nat.le_refl 5, (by decide : (0 : Nat) < 250)⟩

/-- A chunk delivered at the last moment: 249 ms after the wait began. -/
def lastMoment (bytes : List Byte) : Delivery := ⟨[0, 0, 0, 0, 0, 9, 249], padded bytes, 0⟩

theorem lastMoment_inTime (bytes : List Byte) : (lastMoment bytes).inTime Config.default :=
  ⟨(by decide : 5 ≤ 7), (by decide : 249 < 250)⟩

theorem witness_DecodeUndoesEncode : (Instr.wrp16 0xFFFF).wellFormed = true := by decide
theorem witness_EncodeClearsOnlyUnusedBits : opField 0x2ABC7 = opField 0x20007 ∧
    argField 0x2ABC7 &&& usedBits (opField 0x2ABC7) = argField 0x20007 &&& usedBits (opField 0x2ABC7) := by
  decide
theorem witness_StepRunsThePresentedRequest :
    (State.reset.withFetchWord 24 0x40000).fg = .idle ∧
    (State.reset.withFetchWord 24 0x40000).reqs = ⟨0, 0x40000, []⟩ :: [] ∧
    decode 0x40000 = .rdb ∧ Instr.rdb.wellFormed = true := by decide
theorem witness_BusySequencerAcceptsNoRequest : (middle .b7).fg = .running .rdb 0 .b7 [] ∧
    ({ middle .b6 with env := ⟨[.tx], true⟩ :: [] } : State).pauseDue = true ∧ (middle .b6).held = [] ∧
    (nextOf ({ middle .b6 with env := ⟨[], false⟩ :: ⟨[], true⟩ :: [] } : State).foreground).map State.fg =
      some (.running .rdb 0 .b7 []) := by decide
theorem witness_IdleStepIsATurnOfTheEnvironment : State.reset.fg = .idle ∧ State.reset.reqs = [] ∧
    ({ State.reset with reqs := [⟨1, 0x40000, []⟩] } : State).reqs = ⟨0 + 1, 0x40000, []⟩ :: [] ∧
    ({ pausedWorld with reqs := [⟨0, 0x40000, []⟩] } : State).reqs = ⟨0, 0x40000, []⟩ :: [] ∧
    ({ pausedWorld with reqs := [⟨0, 0x40000, []⟩] } : State).fg = .idle ∧ decode 0x40000 ≠ .reserved0 ∧
    ({ pausedWorld with reqs := [⟨0, 0x40000, []⟩] } : State).pauseDue = true ∧
    ({ pausedWorld with reqs := [⟨0, 0x40000, []⟩] } : State).noResetInTurn = true := by decide
theorem witness_ResetEndsTheOperationInProgress :
    ({ middle .b7 with env := [⟨[.rst], false⟩] } : State).fg = .running .rdb 0 .b7 [] ∧
    ({ middle .b7 with env := [⟨[.rst], false⟩] } : State).held = [] ∧
    ({ middle .b7 with env := [⟨[.rst], false⟩] } : State).env = ⟨[.rst], false⟩ :: [] := ⟨rfl, rfl, rfl⟩
theorem witness_StatusWordIsTheShiftedPackedByte :
    State.reset.cfg.valid = true ∧ 0 < State.reset.cfg.statusWordW ∧ 31 < State.reset.cfg.statusWordW := by
  decide
theorem witness_OnlyNamedStepsWriteTheStatus :
    (nextOf (middle (.setrxS1 0)).foreground).map State.rxstate = some 0 ∧
    (nextOf ({ middle .b5 with rxstate := 0 } : State).foreground).map State.rxstate = some 1 ∧
    (nextOf ({ middle .d3 with rxstate := 0 } : State).foreground).map State.rxstate = some 1 ∧
    (nextOf (middle (.settxS1 1)).foreground).map State.txstate = some 1 ∧
    (nextOf (middle .s1).foreground).map State.txstate = some 2 ∧
    (nextOf (middle .f4).foreground).map State.txstate = some 1 := by decide
theorem witness_OnlyNamedStepsWriteTheFlags :
    (nextOf ({ middle .b3 with dataReceived := true } : State).foreground).map State.dataReceived = some false ∧
    (nextOf ({ middle .d1 with dataReceived := true } : State).foreground).map State.dataReceived = some false ∧
    (nextOf (middle .f4).foreground).map State.dataSent = some false ∧
    (State.reset.applyMove (.rx (padded []) 0)).dataReceived = true ∧
    (({ State.reset with dataSent := false } : State).applyMove .tx).dataSent = true ∧
    Move.tx.notReset = true := by decide
theorem witness_ReservedCodeIsRefusedWithMinusOne : opField 0x0FFFF = 0x0 ∧ State.reset.fg = .idle := by decide
theorem witness_SetrxWritesTheReceiveField :
    busyWorld.fg = .idle ∧ busyWorld.noResetInTurn = true ∧ busyWorld.pauseDue = false := by decide
theorem witness_SettxWritesTheTransmitField :
    busyWorld.fg = .idle ∧ busyWorld.noResetInTurn = true ∧ busyWorld.pauseDue = false := by decide
theorem witness_ImaskWritesTheSuppressBit :
    busyWorld.fg = .idle ∧ busyWorld.noResetInTurn = true ∧ busyWorld.pauseDue = false ∧
    pausedWorld.fg = .idle ∧ pausedWorld.noResetInTurn = true ∧ pausedWorld.pauseDue = true := by decide
theorem witness_StatusFieldsAreIndependent : State.reset.alone ∧ Move.tx.notReset = true ∧
    (middle (.setrxS1 0)).foreground = .next { State.reset with rxstate := 0, res := 0, cause := none } :=
  ⟨⟨rfl, rfl, rfl⟩, rfl, rfl⟩
theorem witness_SuppressedSetterPairIsUndisturbed :
    busyWorld.fg = .idle ∧ busyWorld.noReset = true ∧ busyWorld.noPause = true := by decide
theorem witness_RxaccAcceptsThePendingChunk :
    State.reset.alone ∧ State.reset.dataReceived = false ∧
    (delivered [1]).alone ∧ (delivered [1]).dataReceived = true ∧
    (delivered [1]).xbuf[0] = (delivered [1]).cfg.indContinues ∧
    (delivered [7]).alone ∧ (delivered [7]).xbuf[0] ≠ (delivered [7]).cfg.indContinues ∧
    (delivered [7]).xbuf[0] ≠ (delivered [7]).cfg.indFinished :=
  ⟨⟨rfl, rfl, rfl⟩, rfl, ⟨rfl, rfl, rfl⟩, rfl, by decide, ⟨rfl, rfl, rfl⟩, by decide, by decide⟩
theorem witness_SecondDeliveryReplacesTheFirst :
    (∀ env ∈ [[⟨[.rx (padded [7]) 0, .rx (padded [0]) 1], false⟩],
        [⟨[.rx (padded [7]) 0], false⟩, ⟨[.rx (padded [0]) 1], false⟩]],
      (readingWith [] 32 env).fg = .idle ∧ (readingWith [] 32 env).held = [] ∧
      (readingWith [] 32 env).irqOff = false) ∧
    tagged Config.default (padded [0]) ∧
    ({ delivered [7] with env := [⟨[], false⟩, ⟨[.rx (padded [0]) 1], false⟩] } : State).dataReceived = true ∧
    ({ delivered [7] with env := [⟨[], false⟩, ⟨[.rx (padded [0]) 1], false⟩] } : State).irqOff = false :=
  ⟨by simp [readingWith, reading, State.reset, State.ofConfig], .inr (by decide), rfl, rfl⟩
theorem witness_RdbReturnsTheByteAtTheCursor : (reading [0, 9] 1).alone ∧
    (reading [0, 9] 1).rxbuf[(reading [0, 9] 1).rxpos.toNat]? = some 9 ∧
    (reading [0, 9] 31).rxbuf[(reading [0, 9] 31).rxpos.toNat]? = some 0 :=
  ⟨⟨rfl, rfl, rfl⟩, by decide, by decide⟩
theorem witness_RdbInsideAChunkNeverFails :
    (readingWith [0] 31 [⟨[.rx (padded [7]) 0], false⟩]).fg = .idle ∧
    (readingWith [0] 31 [⟨[.rx (padded [7]) 0], false⟩]).noReset = true ∧
    (readingWith [0] 31 [⟨[.rx (padded [7]) 0], false⟩]).noPause = true ∧
    (readingWith [0] 31 [⟨[.rx (padded [7]) 0], false⟩]).rxbuf[31]? = some 0 := by decide
theorem witness_RdbFailsAtTheBoundary :
    (reading [0] 32).alone ∧ 32 ≤ (reading [0] 32).rxpos.toNat ∧
    (reading [0] 32).rxbuf[0] ≠ (reading [0] 32).cfg.indContinues ∧
    (reading [1] 32).alone ∧ (reading [1] 32).rxbuf[0] = (reading [1] 32).cfg.indContinues :=
  ⟨⟨rfl, rfl, rfl⟩, by decide, by decide, ⟨rfl, rfl, rfl⟩, by decide⟩
theorem witness_RdbTakesTheContinuation :
    (readingWith [1] 32 (arrival [0, 0, 0, 0, 0] (padded [0]) 0)).fg = .idle ∧
    (readingWith [1] 32 (arrival [0, 0, 0, 0, 0] (padded [0]) 0)).held = [] ∧
    (readingWith [1] 32 (arrival [0, 0, 0, 0, 0] (padded [0]) 0)).irqOff = false ∧
    32 ≤ (readingWith [1] 32 (arrival [0, 0, 0, 0, 0] (padded [0]) 0)).rxpos.toNat ∧
    (readingWith [1] 32 (arrival [0, 0, 0, 0, 0] (padded [0]) 0)).rxbuf[0] = 0x01 ∧
    (prompt [0]).inTime Config.default ∧ tagged Config.default (prompt [0]).chunk ∧
    (lastMoment [7]).inTime Config.default ∧ ¬ tagged Config.default (lastMoment [7]).chunk :=
  ⟨rfl, rfl, rfl, by decide, by decide, prompt_inTime _, .inr (by decide), lastMoment_inTime _,
    by unfold tagged; decide⟩
theorem witness_PollTestsTheFlagBeforeTheDeadline :
    (middle .b7).fg = .running .rdb 0 .b7 [] ∧ (middle .f3).fg = .running .rdb 0 .f3 [] := ⟨rfl, rfl⟩
theorem witness_ReadFailureIsSticky :
    State.reset.cfg.valid = true ∧ State.reset.alone ∧ State.reset.readClosed ∧
    (nextOf (exec .rdb State.reset)).map (fun t => (t.fg, t.res)) = some (.idle, 0xFFFF) ∧
    (nextOf (exec .rxdone State.reset)).map State.fg = some .idle ∧
    (nextOf (exec .rxacc (delivered [7]))).map (fun t => (t.fg, t.cause)) = some (.idle, some .badIndicator) ∧
    (nextOf (exec (.rds 1) State.reset)).isSome = true ∧
    (nextOf (exec .rxacc State.reset)).map (fun t => (t.fg, t.res)) = some (.idle, 0xFFFF) ∧
    busyWorld.fg = .idle ∧ busyWorld.noReset = true ∧ busyWorld.noPause = true ∧ busyWorld.readClosed :=
  ⟨by decide, ⟨rfl, rfl, rfl⟩, ⟨by decide, by decide⟩, by decide, by decide, by decide, by decide, by decide,
    rfl, by decide, by decide, ⟨by decide, by decide⟩⟩
theorem witness_RxdoneReleasesTheMessage : State.reset.fg = .idle ∧ State.reset.held = [] ∧
    State.reset.irqOff = false ∧ State.reset.env = [] ∧
    (readingWith [0] 5 (List.replicate 2 ⟨[], false⟩ ++ [⟨[.rx (padded [0]) 0], false⟩])).held = [] :=
  ⟨rfl, rfl, rfl, rfl, rfl⟩
theorem witness_RdpStoresAParameterClampedToCap :
    (reading [0, 31] 1).alone ∧ (reading [0, 30] 1).rxbuf[1]? = some 30 ∧ 1 + 1 + (30 : Byte).toNat ≤ 32 ∧
    (reading (List.replicate 31 0 ++ [0]) 31).rxbuf[31]? = some 0 ∧ 31 + 1 + (0 : Byte).toNat ≤ 32 :=
  ⟨⟨rfl, rfl, rfl⟩, by decide, by decide, by decide, by decide⟩
/-- A parameter of 62 bytes whose length byte is the last of its chunk, in a world that delivers two more. -/
def crossing : State :=
  readingWith (1 :: List.replicate 30 0 ++ [62]) 31 (messageSchedule 5 [prompt [1, 5], lastMoment [0, 6]])

theorem witness_RdpCrossesNoBoundary :
    (reading [0, 30] 1).fg = .idle ∧ (reading [0, 30] 1).held = [] ∧ (reading [0, 30] 1).irqOff = false ∧
    (reading [0, 30] 1).rxbuf.toList.drop 1 ++ (([] : List Delivery).map Delivery.chunk).flatMap payload =
      30 :: List.replicate 30 0 ∧
    (reading [0, 30] 1).env = messageSchedule (5 + 4 * (31 - 1)) [] := by decide
theorem witness_RdpCrossesTwoBoundaries :
    crossing.fg = .idle ∧ crossing.held = [] ∧ crossing.irqOff = false ∧
    crossing.rxbuf.toList.drop crossing.rxpos.toNat ++
        ([prompt [1, 5], lastMoment [0, 6]].map Delivery.chunk).flatMap payload =
      62 :: (5 :: List.replicate 30 0 ++ 6 :: List.replicate 30 0) ∧
    crossing.rxbuf[0] = crossing.cfg.indContinues ∧
    (∀ ch ∈ ([prompt [1, 5], lastMoment [0, 6]].map Delivery.chunk).dropLast,
      ch[0] = crossing.cfg.indContinues) ∧
    (∀ d ∈ [prompt [1, 5], lastMoment [0, 6]], d.inTime crossing.cfg ∧ tagged crossing.cfg d.chunk) ∧
    32 - crossing.rxpos.toNat + 31 * (2 - 1) ≤ (62 : Byte).toNat ∧
    (62 : Byte).toNat ≤ (5 :: List.replicate 30 (0 : Byte) ++ 6 :: List.replicate 30 0).length ∧
    crossing.env = messageSchedule (5 + 4 * (31 - crossing.rxpos.toNat)) [prompt [1, 5], lastMoment [0, 6]] :=
  ⟨rfl, rfl, rfl, by decide, by decide, fun ch hc => by rw [List.mem_singleton.mp hc]; decide,
    List.forall_mem_cons.mpr ⟨⟨prompt_inTime _, .inl (by decide)⟩,
      List.forall_mem_singleton.mpr ⟨lastMoment_inTime _, .inr (by decide)⟩⟩,
    by decide, by decide, rfl⟩
theorem witness_RdpCrossesAChunkBoundary :
    (readingWith [1] 32 (messageSchedule 1 [prompt [0, 30]])).rxbuf.toList.drop 32 ++
        ([prompt [0, 30]].map Delivery.chunk).flatMap payload = 30 :: List.replicate 30 0 ∧
    (readingWith [1] 32 (messageSchedule 1 [prompt [0, 30]])).env = deliveryAfter 1 (prompt [0, 30]) ∧
    32 ≤ (readingWith [1] 32 (deliveryAfter 1 (lastMoment [7]))).rxpos.toNat ∧
    (readingWith [1] 32 (deliveryAfter 1 (lastMoment [7]))).irqOff = false ∧
    (readingWith [1] 32 (deliveryAfter 1 (lastMoment [7]))).rxbuf[0] = 0x01 ∧
    (prompt [0, 30]).inTime Config.default ∧ tagged Config.default (prompt [0, 30]).chunk ∧
    (lastMoment [7]).inTime Config.default ∧ ¬ tagged Config.default (lastMoment [7]).chunk :=
  ⟨by decide, rfl, by decide, rfl, by decide, prompt_inTime _, .inr (by decide), lastMoment_inTime _,
    by unfold tagged; decide⟩
theorem witness_ReadFailureEndsTheParameterReader :
    (reading [0, 31] 1).alone ∧ (reading [0, 31] 1).rxbuf[1]? = some 31 ∧ 32 < 1 + 1 + (31 : Byte).toNat ∧
    (reading [0, 31] 1).rxbuf[0] ≠ (reading [0, 31] 1).cfg.indContinues ∧
    (reading [1, 31] 1).alone ∧ (reading [1, 31] 1).rxbuf[1]? = some 31 ∧
    (reading [1, 31] 1).rxbuf[0] = (reading [1, 31] 1).cfg.indContinues ∧
    (readingWith [1, 31] 1 (deliveryAfter (5 + 4 * (31 - 1)) (prompt [7]))).held = [] ∧
    (readingWith [1, 31] 1 (deliveryAfter (5 + 4 * (31 - 1)) (prompt [7]))).irqOff = false ∧
    (prompt [7]).inTime Config.default ∧ ¬ tagged Config.default (prompt [7]).chunk ∧
    (reading [1] 32).alone ∧ 32 ≤ (reading [1] 32).rxpos.toNat :=
  ⟨⟨rfl, rfl, rfl⟩, by decide, by decide, by decide, ⟨rfl, rfl, rfl⟩, by decide, by decide, rfl, rfl,
    prompt_inTime _, by unfold tagged; decide, ⟨rfl, rfl, rfl⟩, by decide⟩
theorem witness_Rdp16ReadsExactlyTwoBytes :
    (reading (List.replicate 29 0 ++ [2, 0x12, 0x34]) 29).alone ∧
    (reading (List.replicate 29 0 ++ [2, 0x12, 0x34]) 29).rxbuf[29]? = some 2 ∧
    (reading (List.replicate 29 0 ++ [2, 0x12, 0x34]) 29).rxbuf[30]? = some 0x12 ∧
    (reading (List.replicate 29 0 ++ [2, 0x12, 0x34]) 29).rxbuf[31]? = some 0x34 ∧
    (reading [0, 3] 1).rxbuf[1]? = some 3 ∧ (3 : Byte) ≠ 2 ∧
    (reading (List.replicate 30 0 ++ [2, 0x12]) 30).rxbuf[30]? = some 2 ∧
    (reading (1 :: List.replicate 30 0 ++ [2]) 31).rxbuf[31]? = some 2 ∧
    (readingWith (1 :: List.replicate 29 0 ++ [2, 0x12]) 30 (deliveryAfter 9 (prompt [0]))).rxbuf[30]? = some 2 ∧
    (readingWith (1 :: List.replicate 29 0 ++ [2, 0x12]) 30 (deliveryAfter 9 (prompt [0]))).rxbuf[0] = 0x01 ∧
    (prompt [0]).inTime Config.default ∧ tagged Config.default (prompt [0]).chunk ∧
    (lastMoment [7]).inTime Config.default ∧ ¬ tagged Config.default (lastMoment [7]).chunk :=
  ⟨⟨rfl, rfl, rfl⟩, by decide, by decide, by decide, by decide, by decide, by decide, by decide, by decide,
    by decide, prompt_inTime _, .inr (by decide), lastMoment_inTime _, by unfold tagged; decide⟩
theorem witness_RdsStoresAStringWithItsTerminator :
    (reading [0, 30] 1).alone ∧ (reading [0, 30] 1).rxbuf[1]? = some 30 ∧ 1 + 1 + (30 : Byte).toNat ≤ 32 :=
  ⟨⟨rfl, rfl, rfl⟩, by decide, by decide⟩
theorem witness_ReaderReassemblesTheMessage :
    (delivered [1]).alone ∧ (delivered [1]).cfg.valid = true ∧ (delivered [1]).irqOff = false ∧
    (delivered [1]).dataReceived = true ∧ (delivered [1]).xbuf = padded [1] ∧
    (∀ d ∈ [lastMoment [0]], d.inTime (delivered [1]).cfg) ∧
    (∀ ch ∈ (padded [1] :: [lastMoment [0]].map Delivery.chunk).dropLast,
      ch[0] = (delivered [1]).cfg.indContinues) ∧
    (∀ ch ∈ (padded [1] :: [lastMoment [0]].map Delivery.chunk).getLast?,
      ch[0] = (delivered [1]).cfg.indFinished) :=
  ⟨⟨rfl, rfl, rfl⟩, by decide, rfl, rfl, rfl,
    fun d hd => by rw [List.mem_singleton.mp hd]; exact lastMoment_inTime _,
    fun ch hc => by rw [List.mem_singleton.mp hc]; decide,
    fun ch hc => by rw [← Option.some.inj hc]; decide⟩
/-- RDB in its wait, with this schedule. -/
def waiting (env : List Turn) : State :=
  { middle .b7 with rxbuf := padded [0xFF], env := env }

theorem witness_ReceivePhasesFollowTheTable :
    (delivered [0]).alone ∧ (delivered [0]).cfg.valid = true ∧ (delivered [0]).rxAvail ∧ (delivered [7]).rxAvail ∧
    (reading [0] 32).alone ∧ (reading [0] 32).rxDrain ∧ (reading [1] 32).rxDrain ∧ (reading [1] 31).rxDrain ∧
    ({ reading [7] 32 with readFailed := true } : State).alone ∧
    ({ reading [7] 32 with readFailed := true } : State).rxDead ∧
    (waiting [⟨[.rx (padded [0]) 0], false⟩]).rxWait ∧
    (waiting [⟨[.rx (padded [0]) 0], false⟩]).fg = .running .rdb 0 .b7 [] ∧
    (waiting [⟨[.rx (padded [0]) 0], false⟩]).rxpos = 32 ∧
    (waiting [⟨[.rx (padded [0]) 0], false⟩]).held = [] ∧
    (waiting [⟨[.rx (padded [0]) 0], false⟩]).irqOff = false ∧
    tagged Config.default (padded [0]) ∧ ¬ tagged Config.default (padded [7]) :=
  ⟨⟨rfl, rfl, rfl⟩, by decide, ⟨rfl, by decide, rfl⟩, ⟨rfl, by decide, rfl⟩, ⟨rfl, rfl, rfl⟩,
    ⟨by decide, by decide, by decide, by decide⟩, ⟨by decide, by decide, by decide, by decide⟩,
    ⟨by decide, by decide, by decide, by decide⟩, ⟨rfl, rfl, rfl⟩, ⟨rfl, by decide, rfl⟩,
    ⟨⟨_, _, _, rfl⟩, rfl, rfl, by decide⟩, rfl, rfl, rfl, rfl, .inr (by decide), by unfold tagged; decide⟩
theorem witness_RstartWritesTheHeader : (composing [1, 2, 3, 4, 5, 6, 7]).alone := ⟨rfl, rfl, rfl⟩
theorem witness_WrbAppendsTheByte :
    (composing (List.replicate 30 0)).alone ∧ (composing (List.replicate 30 0)).txpos.toNat < 31 ∧
    (composing (List.replicate 31 0)).alone ∧ 31 ≤ (composing (List.replicate 31 0)).txpos.toNat :=
  ⟨⟨rfl, rfl, rfl⟩, by decide, ⟨rfl, rfl, rfl⟩, by decide⟩
theorem witness_FlushHandsOffTheBuffer : State.reset.alone ∧ (composing [1]).alone :=
  ⟨⟨rfl, rfl, rfl⟩, ⟨rfl, rfl, rfl⟩⟩
theorem witness_FlushWaitsForTheAcknowledgement :
    ({ composing [1] with dataSent := false, env := acknowledgement [0, 0, 999] } : State).fg = .idle ∧
    ({ composing [1] with dataSent := false, env := acknowledgement [0, 0, 999] } : State).held = [] ∧
    ({ composing [1] with dataSent := false, env := acknowledgement [0, 0, 999] } : State).irqOff = false ∧
    (composing [1]).txpos ≠ 0 ∧ totalMillis (List.drop 2 [0, 0, 999]) < Config.default.txTimeoutMs.toNat :=
  ⟨rfl, rfl, rfl, by decide, by decide⟩
theorem witness_AcknowledgementTimeoutGoesOn :
    ({ middle .f3 with dataSent := false, now := 1000 } : State).fg = .running .rdb 0 .f3 [] ∧
    ({ middle .f3 with dataSent := false, now := 1000 } : State).cfg.txTimeoutMs.toNat ≤
      (({ middle .f3 with dataSent := false, now := 1000 } : State).now - (middle .f3).t0).toNat ∧
    ({ composing [1] with env := busyWorld.env } : State).fg = .idle ∧
    ({ composing [1] with env := busyWorld.env } : State).noReset = true ∧
    ({ composing [1] with env := busyWorld.env } : State).noPause = true ∧
    ({ composing [1] with dataSent := false } : State).alone ∧
    ({ composing [1] with dataSent := false } : State).txpos ≠ 0 :=
  ⟨rfl, by decide, rfl, by decide, by decide, ⟨rfl, rfl, rfl⟩, by decide⟩
theorem witness_WrpAppendsTheParameter : (composing (List.replicate 31 0)).alone := ⟨rfl, rfl, rfl⟩
theorem witness_Wrp16AppendsTheParameter : (composing (List.replicate 31 0)).alone := ⟨rfl, rfl, rfl⟩
theorem witness_RendSendsTheLastChunk : (composing (List.replicate 31 0)).alone := ⟨rfl, rfl, rfl⟩
theorem witness_TwentyNinthByteAfterRstartFlushes :
    busyWorld.fg = .idle ∧ busyWorld.noReset = true ∧ busyWorld.noPause = true ∧
    (List.replicate 28 (0x1B : Byte)).length = 28 := by decide
theorem witness_ReplyIsHandedOffAsItsChunkStream :
    busyWorld.fg = .idle ∧ busyWorld.noReset = true ∧ busyWorld.noPause = true ∧
    (∀ p ∈ [(⟨false, List.replicate 255 0x55⟩ : Param), ⟨true, [1]⟩], p.fits = true) := by decide +kernel
theorem witness_ReplyReadsBackAsItsMessage :
    State.reset.fg = .idle ∧ State.reset.noReset = true ∧ State.reset.noPause = true ∧
    (delivered [0, 0xE0, 0xA1, 0, 0xEE]).cfg = State.reset.cfg ∧ (delivered [0, 0xE0, 0xA1, 0, 0xEE]).alone ∧
    State.reset.cfg.valid = true ∧ (delivered [0, 0xE0, 0xA1, 0, 0xEE]).irqOff = false ∧
    (delivered [0, 0xE0, 0xA1, 0, 0xEE]).dataReceived = true ∧
    (∀ d ∈ ([] : List Delivery), d.inTime State.reset.cfg) ∧
    (runCalls (replyCalls 0x21 0 []) State.reset).map (fun t => t.txLog.map padded) =
      some (State.reset.txLog.map padded ++ ((delivered [0, 0xE0, 0xA1, 0, 0xEE]).xbuf :: [])) :=
  ⟨rfl, rfl, rfl, rfl, ⟨rfl, rfl, rfl⟩, by decide, rfl, rfl, by simp, by decide⟩
theorem witness_TransmitPhasesFollowTheTable :
    (composing [1]).alone ∧ (composing [1]).cfg.valid = true ∧ (composing [1]).txpos ≠ 0 ∧
    (composing [1]).irqOff = false ∧ ({ composing [1] with dataSent := false } : State).alone :=
  ⟨⟨rfl, rfl, rfl⟩, by decide, by decide, rfl, ⟨rfl, rfl, rfl⟩⟩
theorem witness_NotificationsDoTheirHandlersWrites :
    ({ State.reset with env := [⟨[.rx (padded [0]) 0], false⟩] } : State).fg = .idle ∧
    ({ State.reset with env := [⟨[.tx], false⟩] } : State).env = ⟨[.tx], false⟩ :: [] ∧
    State.reset.reqs = [] ∧ State.reset.held = [] ∧ State.reset.irqOff = false := by decide
theorem witness_SuppressionDelaysNotifications :
    ({ busyWorld with irqOff := true } : State).noResetInTurn = true ∧ busyWorld.noResetInTurn = true ∧
    busyWorld.irqOff = false ∧
    (({ busyWorld with held := [.rx (padded [7]) 5] } : State).held ++ busyWorld.turnMoves =
      [.rx (padded [7]) 5] ++ Move.rx (padded [1]) 0 :: [.tx]) ∧
    (∀ c ref, Move.rx c ref ∉ [Move.tx]) ∧ Move.tx ∈ busyWorld.held ++ busyWorld.turnMoves ∧
    (∀ c ref, Move.rx c ref ∉ State.reset.held ++ State.reset.turnMoves) ∧
    Move.tx ∉ State.reset.held ++ State.reset.turnMoves ∧ State.reset.noResetInTurn = true :=
  ⟨by decide, by decide, rfl, by decide, by simp, by decide, by simp [State.reset, State.ofConfig, State.turnMoves],
    by decide, by decide⟩
theorem witness_NotificationsCommute : State.reset.irqOff = false := rfl
theorem witness_WaitingUnderSuppressionTimesOut :
    ({ reading [1] 32 with irqOff := true } : State).fg = .idle ∧
    ({ reading [1] 32 with irqOff := true } : State).noReset = true ∧
    ({ reading [1] 32 with irqOff := true } : State).noPause = true ∧
    32 ≤ (reading [1] 32).rxpos.toNat ∧ (reading [1] 32).rxbuf[0] = (reading [1] 32).cfg.indContinues ∧
    ({ composing [1] with irqOff := true, dataSent := false } : State).noReset = true ∧
    (composing [1]).txpos ≠ 0 := by decide
theorem witness_ResultsAreBytesCountsOrMinusOne :
    busyWorld.fg = .idle ∧ busyWorld.noReset = true ∧ busyWorld.noPause = true := by decide
theorem witness_ReceiveOperationsLeaveTheTransmitSide :
    (reading [0, 2, 1, 2] 1).noReset = true ∧ (nextOf (exec .rxacc (reading [0, 2, 1, 2] 1))).isSome = true ∧
    (nextOf (exec .rdp16 (reading [0, 2, 1, 2] 1))).isSome = true ∧
    (nextOf (exec (.rds 1) (reading [0, 2, 1, 2] 1))).isSome = true := by decide
theorem witness_TransmitOperationsLeaveTheReceiveSide :
    (composing [1]).noReset = true ∧ (nextOf (exec .rend (composing [1]))).isSome = true ∧
    (nextOf (exec (.imask 1) (composing [1]))).isSome = true ∧
    (nextOf (exec (.settx 1) (composing [1]))).isSome = true := by decide
theorem witness_BlockNeverWritesXbuf :
    (nextOf (middle .a2).foreground).isSome = true ∧ State.reset.alone ∧
    (nextOf (exec .rxacc State.reset)).isSome = true := ⟨by decide, ⟨rfl, rfl, rfl⟩, by decide⟩
theorem witness_ResetMeetsTheInvariant : Config.default.valid = true := by decide
theorem witness_EveryStepKeepsTheInvariant :
    (middle .f4).Inv ∧ (nextOf (step (middle .f4))).isSome = true :=
  ⟨⟨by decide, by decide, by decide, by decide, by decide, .inl rfl, rfl, rfl⟩, by decide⟩
theorem witness_NoStepStopsUnderTheInvariant : ({ middle .b9 with rxpos := 31 } : State).Inv :=
  ⟨by decide, by decide, by decide, by decide, by decide, .inl rfl, rfl, rfl⟩
theorem witness_EveryOperationEnds : busyWorld.fg = .idle ∧ busyWorld.noPause = true := by decide
theorem witness_ParametersNeverChange : (nextOf (step State.reset)).isSome = true := by decide
theorem witness_UnspecifiedBytesAreNotObservable :
    State.reset.fg = .idle ∧
    State.reset.agree { State.reset with txbuf := padded [9, 9], rxbuf := padded [0xFF, 9] } :=
  ⟨rfl, rfl, fun k h1 h2 => absurd (Nat.le_trans h1 h2) (by decide), by decide, by decide⟩

end Sys2Proof.Tests
end

section
/-! The state after reset and the packed status (spec 10 R12, R13, R26). -/

namespace Sys2Proof.Machine

open Sys2Proof

@[simp] theorem State.ofConfig_indicator (c : Config) : (State.ofConfig c).rxbuf[0] = c.indInvalid := by
  simp [State.ofConfig]

theorem State.ofConfig_clean (c : Config) : (State.ofConfig c).clean :=
  ⟨rfl, rfl, rfl, State.ofConfig_indicator c, rfl, rfl, rfl, rfl⟩

/-- Settles O8: every register takes its value by the definition of the reset state. -/
theorem resetLeavesTheStatedValues : Obligations.ResetLeavesTheStatedValues :=
  ⟨fun c => ⟨rfl, rfl, rfl, rfl, rfl, rfl, State.ofConfig_indicator c, rfl, rfl, rfl, rfl,
      State.ofConfig_clean c⟩,
    rfl, rfl, rfl⟩

/-- The packed byte as 10 R12 writes it. -/
theorem State.statusByte_eq_or (s : State) :
    s.statusByte = (s.rxstate.setWidth 8 <<< 4) ||| s.txstate.setWidth 8 :=
  (BitVec.setWidth_eq _).symm.trans BitVec.setWidth_append_eq_shiftLeft_setWidth_or

/-- One bit of the status word; above the packed byte the byte itself has no bit that is set. -/
theorem State.getLsbD_statusWord (s : State) (k : Nat) (hk : k < s.cfg.statusWordW) :
    s.statusWord.getLsbD k =
      if s.cfg.statusShift ≤ k ∧ k < s.cfg.statusShift + 8 then s.statusByte.getLsbD (k - s.cfg.statusShift)
      else false := by
  rw [State.statusWord, BitVec.getLsbD_shiftLeft, BitVec.getLsbD_setWidth]
  by_cases hlow : s.cfg.statusShift ≤ k
  · by_cases hhigh : k < s.cfg.statusShift + 8
    · have hin : k - s.cfg.statusShift < s.cfg.statusWordW := by omega
      simp [hk, hlow, hhigh, hin]
    · have hout : s.statusByte.getLsbD (k - s.cfg.statusShift) = false :=
        BitVec.getLsbD_of_ge _ _ (by omega)
      simp [hhigh, hout]
  · have hbelow : k < s.cfg.statusShift := by omega
    simp [hlow, hbelow]

/-- Settles O10, from the bits of the packed byte and of the word. -/
theorem statusWordIsTheShiftedPackedByte : Obligations.StatusWordIsTheShiftedPackedByte :=
  fun s _ => ⟨s.statusByte_eq_or, s.getLsbD_statusWord⟩

end Sys2Proof.Machine
end

section
/-! The agreement of two states that differ in unspecified bytes only, and what keeps it (spec 10 R27). -/

namespace Sys2Proof.Machine

open Sys2Proof

/-- The state with other bytes in TXBUF and RXBUF. -/
def State.withBuffers (s : State) (tb rb : Chunk) : State := { s with txbuf := tb, rxbuf := rb }

/-- Agreement, with the second state written as the first with other buffers. -/
theorem State.agree_iff (s u : State) :
    s.agree u ↔ ∃ tb rb, u = s.withBuffers tb rb ∧
      (∀ k, 1 ≤ k → k ≤ s.txpos.toNat → s.txbuf[k]? = tb[k]?) ∧
      s.rxbuf[0] = rb[0] ∧ (s.rxpos.toNat < 32 → s.rxbuf = rb) := by
  constructor
  · rintro ⟨hu, htx, hind, hrx⟩
    exact ⟨u.txbuf, u.rxbuf, hu, htx, hind, hrx⟩
  · rintro ⟨tb, rb, rfl, htx, hind, hrx⟩
    exact ⟨rfl, htx, hind, hrx⟩

theorem State.agree.fg_eq {s u : State} (h : s.agree u) : u.fg = s.fg := by rw [h.1]
theorem State.agree.env_eq {s u : State} (h : s.agree u) : u.env = s.env := by rw [h.1]
theorem State.agree.cfg_eq {s u : State} (h : s.agree u) : u.cfg = s.cfg := by rw [h.1]
theorem State.agree.rxpos_eq {s u : State} (h : s.agree u) : u.rxpos = s.rxpos := by rw [h.1]
theorem State.agree.txpos_eq {s u : State} (h : s.agree u) : u.txpos = s.txpos := by rw [h.1]

theorem State.agree.indicator_eq {s u : State} (h : s.agree u) : u.rxbuf[0] = s.rxbuf[0] := by
  obtain ⟨-, -, hind, -⟩ := h
  exact hind.symm

theorem State.agree.rxbuf_eq {s u : State} (h : s.agree u) (hp : s.rxpos.toNat < 32) : u.rxbuf = s.rxbuf := by
  obtain ⟨-, -, -, hrx⟩ := h
  exact (hrx hp).symm

/-- A branch on a condition the two states share. -/
theorem State.agree.ite {p : Prop} [Decidable p] {a b a' b' : State} (hthen : a.agree b)
    (helse : a'.agree b') : (if p then a else a').agree (if p then b else b') := by
  by_cases hp : p
  · simpa only [hp, if_true] using hthen
  · simpa only [hp, if_false] using helse

/-! ## The copy of a chunk and the writes of RXPOS -/

/-- A copy of XBUF makes the receive buffers equal. -/
theorem State.agree.copyChunk {s u : State} (h : s.agree u) : s.copyChunk.agree u.copyChunk := by
  obtain ⟨tb, rb, rfl, htx, -, -⟩ := (s.agree_iff u).1 h
  exact ⟨rfl, htx, rfl, fun _ => rfl⟩

/-- RXPOS leaves the boundary where the receive buffers are equal as a whole. -/
theorem State.agree.acceptChunk {s u : State} (h : s.agree u) (hcopy : s.rxbuf = u.rxbuf) :
    s.acceptChunk.agree u.acceptChunk := by
  obtain ⟨tb, rb, rfl, htx, hind, -⟩ := (s.agree_iff u).1 h
  exact ⟨rfl, htx, hind, fun _ => hcopy⟩

/-- Within a chunk RXPOS moves on. -/
theorem State.agree.readByte {s u : State} (h : s.agree u) (hp : s.rxpos.toNat < 32) :
    ({ s with rxpos := s.rxpos + 1 } : State).agree { u with rxpos := u.rxpos + 1 } := by
  obtain ⟨tb, rb, rfl, htx, hind, hrx⟩ := (s.agree_iff u).1 h
  exact ⟨rfl, htx, hind, fun _ => hrx hp⟩

/-- With RXPOS at the boundary the payload of RXBUF is unspecified. -/
theorem State.agree.atBoundary {s u : State} (h : s.agree u) :
    ({ s with rxpos := 32 } : State).agree { u with rxpos := 32 } := by
  obtain ⟨tb, rb, rfl, htx, hind, -⟩ := (s.agree_iff u).1 h
  exact ⟨rfl, htx, hind, fun hp => absurd hp (Nat.lt_irrefl 32)⟩

theorem State.agree.invalidate {s u : State} (h : s.agree u) : s.invalidate.agree u.invalidate := by
  obtain ⟨tb, rb, rfl, htx, -, hrx⟩ := (s.agree_iff u).1 h
  refine ⟨rfl, htx, ?_, fun hp => ?_⟩
  · simp [State.invalidate, State.withBuffers]
  · have hrb : s.rxbuf = rb := hrx hp
    simp [State.invalidate, State.withBuffers, hrb]

/-- RXDONE's D2 leaves the indicator alone specified (41 R110). -/
theorem State.agree.released {s u : State} (h : s.agree u) :
    ({ s.invalidate with rxpos := 32, readFailed := false } : State).agree
      { u.invalidate with rxpos := 32, readFailed := false } := by
  obtain ⟨-, htx, hind, hrx⟩ := h.invalidate.atBoundary
  obtain ⟨tb, rb, rfl, -, -, -⟩ := (s.agree_iff u).1 h
  exact ⟨rfl, htx, hind, hrx⟩

/-- Only the indicator is looked at. -/
theorem State.agree.chunkTagged_eq {s u : State} (h : s.agree u) : s.chunkTagged = u.chunkTagged := by
  rw [State.chunkTagged, State.chunkTagged, h.cfg_eq, h.indicator_eq]

/-! ## OUT, the counter and the timebase -/

theorem State.agree.storeClamped {s u : State} (h : s.agree u) (b : Byte) :
    (s.storeClamped b).agree (u.storeClamped b) := by
  obtain ⟨tb, rb, rfl, htx, hind, hrx⟩ := (s.agree_iff u).1 h
  exact .ite ⟨rfl, htx, hind, hrx⟩ h

theorem State.agree.setI {s u : State} (h : s.agree u) (k : Half) :
    ({ s with i := k } : State).agree { u with i := k } := by
  obtain ⟨tb, rb, rfl, htx, hind, hrx⟩ := (s.agree_iff u).1 h
  exact ⟨rfl, htx, hind, hrx⟩

theorem State.agree.stay {s u : State} (h : s.agree u) (timeout : Millis) :
    (s.stay timeout).agree (u.stay timeout) := by
  obtain ⟨tb, rb, rfl, htx, hind, hrx⟩ := (s.agree_iff u).1 h
  exact .ite ⟨rfl, htx, hind, hrx⟩ h

/-! ## The writes of TXBUF and TXPOS -/

/-- An empty transmit buffer has no specified byte. -/
theorem State.agree.emptied {s u : State} (h : s.agree u) :
    ({ s with txpos := 0 } : State).agree { u with txpos := 0 } := by
  obtain ⟨tb, rb, rfl, -, hind, hrx⟩ := (s.agree_iff u).1 h
  exact ⟨rfl, fun k h1 h2 => absurd (Nat.le_trans h1 h2) (Nat.not_succ_le_zero 0), hind, hrx⟩

/-- The byte appended becomes a payload byte. -/
theorem State.agree.put {s u : State} (h : s.agree u) (d : Byte) (hp : s.txpos.toNat < 31) :
    (s.put d).agree (u.put d) := by
  obtain ⟨tb, rb, rfl, htx, hind, hrx⟩ := (s.agree_iff u).1 h
  refine ⟨rfl, fun k h1 h2 => ?_, hind, hrx⟩
  have hk : k ≤ s.txpos.toNat + 1 := by
    have hnext : (s.txpos + 1).toNat = s.txpos.toNat + 1 := by bv_omega
    exact hnext ▸ h2
  by_cases hlast : 1 + s.txpos.toNat = k
  · simp [State.put, State.withBuffers, Vector.getElem?_setIfInBounds, hlast]
  · simp only [State.put, State.withBuffers, Vector.getElem?_setIfInBounds, hlast, if_false]
    exact htx k h1 (by omega)

/-- The bytes a hand-off shows are the indicator and the payload bytes now in TXBUF (42 R146). -/
theorem State.agree.outboundBytes_eq {s u : State} (h : s.agree u) :
    s.outboundBytes = u.outboundBytes := by
  obtain ⟨tb, rb, rfl, htx, -, -⟩ := (s.agree_iff u).1 h
  apply List.ext_getElem?
  intro k
  simp only [State.outboundBytes, State.taggedTxbuf, State.withBuffers, List.getElem?_take, Vector.getElem?_toList,
    Vector.getElem?_set]
  by_cases h0 : 0 = k
  · simp [h0]
  · by_cases hk : k < s.txpos.toNat + 1
    · simp only [h0, hk, if_true, if_false]
      exact htx k (by omega) (by omega)
    · simp [hk]

theorem State.agree.handOff {s u : State} (h : s.agree u) : s.handOff.agree u.handOff := by
  have hout := h.outboundBytes_eq
  obtain ⟨tb, rb, rfl, htx, hind, hrx⟩ := (s.agree_iff u).1 h
  refine ⟨?_, fun k h1 h2 => ?_, hind, hrx⟩
  · simp only [State.handOff, ← hout]
    rfl
  · have h0 : ¬ 0 = k := by omega
    simp only [State.handOff, State.taggedTxbuf, Vector.getElem?_set, h0, if_false]
    exact htx k h1 h2

end Sys2Proof.Machine
end

section
/-! Two runs from states that differ in unspecified bytes only stay in step (spec 10 R27). -/

namespace Sys2Proof.Machine

open Sys2Proof

/-! ## The labels a primitive returns to -/

theorem backSound_of_plain {next : Label} {back : List Label} (h : back.all Label.plainReturn = true) :
    backSound next back = true := by
  unfold backSound
  split
  · rfl
  · exact absurd (Bool.and_eq_true_iff.1 h).1 Bool.false_ne_true
  · exact h

/-- Outside FLUSH every label to return to asks nothing of the cursors. -/
theorem plain_of_backSound {next : Label} {back : List Label} (hn : next.ofFlush = false)
    (h : backSound next back = true) : back.all Label.plainReturn = true := by
  unfold backSound at h
  split at h
  · rfl
  · exact absurd ((Bool.and_eq_true_iff.1 h).1) (by simp [hn])
  · exact h

/-- The steps between a copy of XBUF into RXBUF and the write of RXPOS that makes its bytes readable: RXACC's
A3 and A4, RDB's B8v and B8r. -/
def Label.afterCopy : Label → Bool
  | .a3 | .a4 | .b8v | .b8r => true
  | _ => false

/-- The step asks nothing of a cursor and nothing of RXBUF as a whole. -/
def Label.unguarded : Label → Bool
  | .b9 | .w2 _ => false
  | l => !l.afterCopy

theorem Label.unguarded_of_plainReturn {l : Label} (h : l.plainReturn = true) : l.unguarded = true := by
  cases l with
  | a3 | a4 | b8v | b8r | b9 | w2 _ => exact absurd h Bool.false_ne_true
  | _ => rfl

theorem Label.afterCopy_of_unguarded {l : Label} (h : l.unguarded = true) : l.afterCopy = false := by
  unfold Label.unguarded at h
  split at h
  · contradiction
  · contradiction
  · simpa using h

theorem State.cursorAllows_of_unguarded (s : State) {l : Label} (h : l.unguarded = true) :
    s.cursorAllows l = true := by
  unfold State.cursorAllows
  split
  · contradiction
  · contradiction
  · rfl

/-! ## The relation between the two runs -/

/-- The sequencer stands at a step after a copy and before the write of RXPOS. -/
def State.holdsCopy (s : State) : Bool :=
  match s.fg with
  | .idle => false
  | .running _ _ next _ => next.afterCopy

/-- What the two runs keep: they agree but for unspecified bytes, the sequencer is sound, and after a copy the
two receive buffers are equal as a whole, whatever RXPOS is. -/
structure Coupled (s u : State) : Prop where
  agree : s.agree u
  sound : s.sequencerSound = true
  copied : s.holdsCopy = true → s.rxbuf = u.rxbuf

section Ends

variable {s u : State} {op : Instr} {back : List Label}

theorem Coupled.ofIdle (h : s.agree u) (hi : s.fg = .idle) : Coupled s u :=
  ⟨h, by simp [State.sequencerSound, hi], by simp [State.holdsCopy, hi]⟩

/-- The sequencer goes on at a label whose demands are met. -/
theorem Coupled.running {r : Half} {next : Label} (h : s.agree u) (hcur : s.cursorAllows next = true)
    (hback : backSound next back = true) (hcopy : next.afterCopy = true → s.rxbuf = u.rxbuf) :
    Coupled { s with fg := .running op r next back } { u with fg := .running op r next back } := by
  refine ⟨?_, ?_, hcopy⟩
  · obtain ⟨tb, rb, rfl, htx, hind, hrx⟩ := (s.agree_iff u).1 h
    exact ⟨rfl, htx, hind, hrx⟩
  · exact Bool.and_eq_true_iff.2 ⟨hcur, hback⟩

theorem Coupled.unguarded {r : Half} {next : Label} (h : s.agree u) (hn : next.unguarded = true)
    (hback : backSound next back = true) :
    Coupled { s with fg := .running op r next back } { u with fg := .running op r next back } :=
  .running h (s.cursorAllows_of_unguarded hn) hback (by simp [Label.afterCopy_of_unguarded hn])

/-- `step <- next`, where the next step asks nothing. -/
theorem Coupled.goTo {next : Label} (h : s.agree u) (hback : back.all Label.plainReturn = true)
    (hn : next.unguarded = true := by rfl) : Coupled (s.goTo op next back) (u.goTo op next back) :=
  .unguarded h hn (backSound_of_plain hback)

theorem Coupled.ended {v : Half} {c : Option Cause} (h : s.agree u) :
    Coupled { s with fg := .idle, res := v, cause := c } { u with fg := .idle, res := v, cause := c } := by
  obtain ⟨tb, rb, rfl, htx, hind, hrx⟩ := (s.agree_iff u).1 h
  exact .ofIdle ⟨rfl, htx, hind, hrx⟩ rfl

theorem Coupled.fail {c : Cause} (h : s.agree u) : Coupled (s.fail c) (u.fail c) := .ended h

theorem Coupled.failRead {c : Cause} (h : s.agree u) : Coupled (s.failRead c) (u.failRead c) := by
  obtain ⟨tb, rb, rfl, htx, hind, hrx⟩ := (s.agree_iff u).1 h
  exact .fail ⟨rfl, htx, hind, hrx⟩

theorem Coupled.finish {v : Half} (h : s.agree u) (hback : back.all Label.plainReturn = true) :
    Coupled (s.finish op v back) (u.finish op v back) := by
  cases back with
  | nil => exact .ended h
  | cons l rest =>
    obtain ⟨hl, hrest⟩ := Bool.and_eq_true_iff.1 hback
    exact .unguarded h (Label.unguarded_of_plainReturn hl) (backSound_of_plain hrest)

/-- FLUSH returns with an empty buffer, so that WRB's W2 finds room where it is the one that called. -/
theorem Coupled.finishFlush {v : Half} {next : Label} (h : s.agree u) (hback : backSound next back = true)
    (hempty : s.txpos = 0) : Coupled (s.finish op v back) (u.finish op v back) := by
  by_cases hplain : back.all Label.plainReturn = true
  · exact .finish h hplain
  · cases back with
    | nil => exact .ended h
    | cons l rest =>
      cases l with
      | w2 d =>
        have hrest : rest.all Label.plainReturn = true := (Bool.and_eq_true_iff.1 hback).2
        exact .running h (by simp [State.cursorAllows, hempty]) (backSound_of_plain hrest) nofun
      | _ => exact absurd hback hplain

/-- A branch on a condition the two runs share. -/
theorem Coupled.ite {p : Prop} [Decidable p] {a b a' b' : State} (hthen : p → Coupled a b)
    (helse : ¬ p → Coupled a' b') : Coupled (if p then a else a') (if p then b else b') := by
  by_cases hp : p
  · simpa only [hp, if_true] using hthen hp
  · simpa only [hp, if_false] using helse hp

end Ends

/-! ## The steps that look at a buffer -/

section BufferSteps

variable {s u : State} {op : Instr} {back : List Label}

theorem stepA3_coupled (h : s.agree u) (hplain : back.all Label.plainReturn = true)
    (hcopy : s.rxbuf = u.rxbuf) : Coupled (stepA3 op back s) (stepA3 op back u) := by
  unfold stepA3
  rw [← h.chunkTagged_eq]
  exact .ite (fun _ => .running h rfl (backSound_of_plain hplain) fun _ => hcopy)
    (fun _ => .failRead h.atBoundary)

theorem stepB8v_coupled (h : s.agree u) (hplain : back.all Label.plainReturn = true)
    (hcopy : s.rxbuf = u.rxbuf) : Coupled (stepB8v op back s) (stepB8v op back u) := by
  unfold stepB8v
  rw [← h.chunkTagged_eq]
  exact .ite (fun _ => .running h rfl (backSound_of_plain hplain) fun _ => hcopy) (fun _ => .failRead h)

/-- At the boundary only the indicator decides. -/
theorem stepB2_coupled (h : s.agree u) (hplain : back.all Label.plainReturn = true) :
    Coupled (stepB2 op back s) (stepB2 op back u) := by
  unfold stepB2
  rw [h.indicator_eq, h.cfg_eq]
  exact .ite (fun _ => .goTo h hplain) (fun _ => .fail h)

end BufferSteps

/-- Both outcomes are next states, and these are coupled. -/
def BothAnswer (x y : Host.Outcome State Fault Refusal) : Prop :=
  ∃ t v, x = .next t ∧ y = .next v ∧ Coupled t v

theorem BothAnswer.next {t v : State} (h : Coupled t v) : BothAnswer (.next t) (.next v) :=
  ⟨t, v, rfl, rfl, h⟩

/-- Below the boundary the byte read is a specified one. -/
theorem stepB9_answers {s u : State} {op : Instr} {back : List Label} (h : s.agree u)
    (hplain : back.all Label.plainReturn = true) (hp : s.rxpos.toNat < 32) :
    BothAnswer (stepB9 op back s) (stepB9 op back u) := by
  rcases stepB9_cases op back s with ⟨v, hv, hs⟩ | ⟨hout, -⟩
  · have hu : stepB9 op back u = .next ({ u with rxpos := u.rxpos + 1 }.finish op (byteResult v) back) := by
      simp only [stepB9, h.rxbuf_eq hp, h.rxpos_eq, hv]
    exact ⟨_, _, hs, hu, .finish (h.readByte hp) hplain⟩
  · omega

/-- Below the capacity the byte appended is a payload byte from then on. -/
theorem stepW2_answers {s u : State} {op : Instr} {d : Byte} {back : List Label} (h : s.agree u)
    (hplain : back.all Label.plainReturn = true) (hp : s.txpos.toNat < 31) :
    BothAnswer (stepW2 op d back s) (stepW2 op d back u) := by
  rcases stepW2_cases op d back s with ⟨-, hs⟩ | ⟨hfull, -⟩
  · rcases stepW2_cases op d back u with ⟨-, hu⟩ | ⟨hfull, -⟩
    · exact ⟨_, _, hs, hu, .finish (h.put d hp) hplain⟩
    · rw [h.txpos_eq] at hfull
      omega
  · omega

/-! ## One atomic step -/

/-- Outside FLUSH. -/
theorem atomic_answers_of_not_flush {s u : State} {op : Instr} {r : Half} {next : Label} {back : List Label}
    (h : s.agree u) (hnext : next.ofFlush = false) (hcur : s.cursorAllows next = true)
    (hplain : back.all Label.plainReturn = true) (hcopy : next.afterCopy = true → s.rxbuf = u.rxbuf) :
    BothAnswer (s.atomic op r next back) (u.atomic op r next back) := by
  have hback {l : Label} : backSound l back = true := backSound_of_plain hplain
  obtain ⟨tb, rb, rfl, htx, hind, hrx⟩ := (s.agree_iff u).1 h
  cases next with
  | f1 _ | f2 | f3 | f4 | f5 => contradiction
  -- The step ends the operation or the primitive, and writes neither buffer and no cursor.
  | setrxS1 _ | settxS1 _ | imaskS1 _ | d3 | p3 | q4r | t3 | dataDone =>
    exact .next (.finish ⟨rfl, htx, hind, hrx⟩ hplain)
  -- The step goes on, and writes neither buffer and no cursor.
  | b3 | b5 | b6 | d1 | p1 _ | p1r _ | q1 | q3 | q3r | q4 | t2 | s1 | s3 | s4 _ | s5 _ | u1 _ | v1 _
  | v2 _ | e1 | e2 => exact .next (.goTo ⟨rfl, htx, hind, hrx⟩ hplain)
  | a1 => exact .next (.ite (fun _ => .goTo h hplain) (fun _ => .fail h))
  | a2 | b8 => exact .next (.running h.copyChunk rfl hback fun _ => rfl)
  | a3 => exact .next (stepA3_coupled h hplain (hcopy rfl))
  | a4 => exact .next (.finish (h.acceptChunk (hcopy rfl)) hplain)
  | b1 =>
    exact .next (.ite (fun hp => .running h (decide_eq_true hp) hback nofun) (fun _ => .goTo h hplain))
  | b2 => exact .next (stepB2_coupled h hplain)
  | b4 => exact .next (.goTo h.invalidate hplain)
  | b7 =>
    exact .next (.ite (fun _ => .goTo h hplain) fun _ =>
      .ite (fun _ => .failRead h) (fun _ => .goTo (h.stay _) hplain))
  | b8v => exact .next (stepB8v_coupled h hplain (hcopy rfl))
  | b8r => exact .next (.running (h.acceptChunk (hcopy rfl)) rfl hback nofun)
  | b9 => exact stepB9_answers h hplain (of_decide_eq_true hcur)
  | d2 => exact .next (.goTo h.released hplain)
  | p2 => exact .next (.ite (fun _ => .goTo h hplain) (fun _ => .finish h hplain))
  | p2r => exact .next (.goTo ((h.storeClamped _).setI _) hplain)
  | q2 => exact .next (.ite (fun _ => .goTo h hplain) (fun _ => .fail h))
  | s2 => exact .next (.goTo h.emptied hplain)
  | w1 d =>
    exact .next (.ite (fun _ => .unguarded h rfl hplain) fun hp =>
      .running h (decide_eq_true (Nat.not_le.1 hp)) hback nofun)
  | w2 d => exact stepW2_answers h hplain (of_decide_eq_true hcur)
  | dataStart _ =>
    exact .next (.ite (fun _ => .goTo ⟨rfl, htx, hind, hrx⟩ hplain)
      (fun _ => .finish ⟨rfl, htx, hind, hrx⟩ hplain))
  | dataLoop _ =>
    exact .next (.ite (fun _ => .goTo ⟨rfl, htx, hind, hrx⟩ hplain) (fun _ => .finish h hplain))

/-- Inside FLUSH. -/
theorem atomic_answers_of_flush {s u : State} {op : Instr} {r : Half} {next : Label} {back : List Label}
    (h : s.agree u) (hnext : next.ofFlush = true) (hback : backSound next back = true) :
    BothAnswer (s.atomic op r next back) (u.atomic op r next back) := by
  obtain ⟨tb, rb, rfl, htx, hind, hrx⟩ := (s.agree_iff u).1 h
  cases next with
  | f1 ind =>
    exact .next (.ite (fun hempty => .finishFlush ⟨rfl, htx, hind, hrx⟩ hback hempty)
      (fun _ => .unguarded ⟨rfl, htx, hind, hrx⟩ rfl hback))
  | f2 => exact .next (.unguarded ⟨rfl, htx, hind, hrx⟩ rfl hback)
  | f3 =>
    exact .next (.ite (fun _ => .unguarded h rfl hback) fun _ =>
      .ite (fun _ => .unguarded ⟨rfl, htx, hind, hrx⟩ rfl hback) (fun _ => .unguarded (h.stay _) rfl hback))
  | f4 => exact .next (.unguarded h.handOff rfl hback)
  | f5 => exact .next (.finishFlush h.emptied hback rfl)
  | _ => contradiction

/-- One atomic step of the foreground. -/
theorem Coupled.foreground_answers {s u : State} (h : Coupled s u) : BothAnswer s.foreground u.foreground := by
  obtain ⟨hagree, hsound, hcopied⟩ := h
  cases hs : s.fg with
  | idle =>
    rw [s.foreground_idle hs, u.foreground_idle (hagree.fg_eq.trans hs)]
    exact .next (.ofIdle hagree hs)
  | running op r next back =>
    rw [s.foreground_running _ _ _ _ hs, u.foreground_running _ _ _ _ (hagree.fg_eq.trans hs)]
    simp only [State.sequencerSound, State.holdsCopy, hs, Bool.and_eq_true] at hsound hcopied
    obtain ⟨hcur, hback⟩ := hsound
    cases hnext : next.ofFlush with
    | true => exact atomic_answers_of_flush hagree hnext hback
    | false => exact atomic_answers_of_not_flush hagree hnext hcur (plain_of_backSound hnext hback) hcopied

/-! ## The environment's turn -/

/-- A move writes neither buffer and no cursor, or it is a reset, which leaves nothing to differ in. -/
theorem Coupled.applyMove {s u : State} (h : Coupled s u) (m : Move) :
    Coupled (s.applyMove m) (u.applyMove m) := by
  obtain ⟨hagree, hsound, hcopied⟩ := h
  obtain ⟨tb, rb, rfl, htx, hind, hrx⟩ := (s.agree_iff u).1 hagree
  cases m with
  | rx _ _ | tx =>
    exact .ite (fun _ => ⟨⟨rfl, htx, hind, hrx⟩, hsound, hcopied⟩)
      (fun _ => ⟨⟨rfl, htx, hind, hrx⟩, hsound, hcopied⟩)
  | tick ms => exact ⟨⟨rfl, htx, hind, hrx⟩, hsound, hcopied⟩
  | rst => exact .ofIdle ⟨rfl, fun _ _ _ => rfl, rfl, fun _ => rfl⟩ rfl

theorem Coupled.applyMoves {s u : State} (ms : List Move) (h : Coupled s u) :
    Coupled (ms.foldl State.applyMove s) (ms.foldl State.applyMove u) := by
  induction ms generalizing s u with
  | nil => exact h
  | cons m ms ih => exact ih (h.applyMove m)

theorem Coupled.environment {s u : State} (h : Coupled s u) : Coupled s.environment u.environment := by
  obtain ⟨hagree, hsound, hcopied⟩ := h
  obtain ⟨tb, rb, rfl, htx, hind, hrx⟩ := (s.agree_iff u).1 hagree
  exact Coupled.applyMoves (s.held ++ s.turnMoves) ⟨⟨rfl, htx, hind, hrx⟩, hsound, hcopied⟩

/-! ## Transitions, runs, operations -/

theorem State.agree.pauseDue_eq {s u : State} (h : s.agree u) : u.pauseDue = s.pauseDue := by
  rw [State.pauseDue, State.pauseDue, h.env_eq]

theorem State.agree.idle_eq {s u : State} (h : s.agree u) : u.idle = s.idle := by
  rw [State.idle, State.idle, h.fg_eq]

theorem Coupled.advance_answers {s u : State} (h : Coupled s u) : BothAnswer s.advance u.advance := by
  have hpause := h.agree.pauseDue_eq
  cases hp : s.pauseDue with
  | true =>
    rw [s.advance_paused hp, u.advance_paused (hpause.trans hp)]
    exact .next h.environment
  | false =>
    rw [s.advance_unpaused hp, u.advance_unpaused (hpause.trans hp)]
    exact h.environment.foreground_answers

theorem Coupled.runOn_answers {s u : State} (n : Nat) (h : Coupled s u) : BothAnswer (s.runOn n) (u.runOn n) := by
  induction n generalizing s u with
  | zero => exact .next h
  | succ n ih =>
    obtain ⟨t, v, ht, hv, htv⟩ := h.advance_answers
    rw [State.runOn, State.runOn, ht, hv]
    simp only [h.agree.pauseDue_eq, htv.agree.idle_eq]
    split
    · exact .next htv
    · exact ih htv

/-- An operation that starts at a step which asks nothing, in two states that agree. -/
theorem State.agree.perform_answers {s u : State} {op : Instr} {first : Label} {back : List Label} (h : s.agree u)
    (hs : s.fg = .idle) (hback : back.all Label.plainReturn = true) (hfirst : first.unguarded = true := by rfl) :
    BothAnswer (s.perform op first back) (u.perform op first back) := by
  have hbudget : u.budget = s.budget := by rw [State.budget, State.budget, h.env_eq]
  simp only [State.perform, hs, h.fg_eq, hbudget]
  exact Coupled.runOn_answers _ (.goTo h hback hfirst)

theorem State.agree.exec_answers {s u : State} (h : s.agree u) (hs : s.fg = .idle) (i : Instr) :
    BothAnswer (exec i s) (exec i u) := by
  cases i with
  | reserved0 =>
    simp only [exec, execReserved0, hs, h.fg_eq]
    exact .next (.fail h)
  | setrx _ | settx _ | imask _ => exact h.perform_answers hs rfl
  | rxacc | rdb | rxdone | rdp _ | rdp16 | rds _ => exact h.perform_answers hs rfl
  | rstart _ _ | wrb _ | wrp _ | wrp16 _ | rend | flush _ => exact h.perform_answers hs rfl

/-- Settles O60: the two operations start coupled, and every transition keeps them so. -/
theorem unspecifiedBytesAreNotObservable : Obligations.UnspecifiedBytesAreNotObservable := by
  intro i s u hs h
  obtain ⟨t, v, ht, hv, htv⟩ := h.exec_answers hs i
  exact ⟨t, v, ht, hv, htv.agree⟩

end Sys2Proof.Machine
end

section
/-! The decoder on the two fields of a word (spec 30 R70 to R72). -/

namespace Sys2Proof

/-- Of `op` and `arg` put together into a word, the decoder sees the two fields again. -/
theorem decode_append (op : BitVec 4) (arg : Half) : decode (op ++ arg) = decodeFields op arg := by
  rw [decode, opField_append, argField_append]

/-- The code 0x0 alone decides: no bit of `arg` is looked at. -/
theorem decode_of_opField_zero {w : RequestWord} (hop : opField w = 0x0) : decode w = .reserved0 := by
  rw [decode, hop]
  rfl

/-- Settles O1: a word decodes as its two fields, and each code has its row in the map. -/
theorem opSelectsTheOperation : Obligations.OpSelectsTheOperation := fun arg =>
  ⟨decode_append 0x0 arg, decode_append 0x1 arg, decode_append 0x2 arg, decode_append 0x3 arg,
    decode_append 0x4 arg, decode_append 0x5 arg, decode_append 0x6 arg, decode_append 0x7 arg,
    decode_append 0x8 arg, decode_append 0x9 arg, decode_append 0xA arg, decode_append 0xB arg,
    decode_append 0xC arg, decode_append 0xD arg, decode_append 0xE arg, decode_append 0xF arg⟩

end Sys2Proof
end

section
/-! The reserved operation (spec 30 R73). -/

namespace Sys2Proof.Machine

open Sys2Proof

/-- With the sequencer already idle, a failure writes the result and the ghost cause only. -/
theorem State.fail_of_idle {s : State} (hs : s.fg = .idle) (c : Cause) :
    s.fail c = { s with res := 0xFFFF, cause := some c } := by
  rw [State.fail, ← hs, failResult]

/-- No turn of the environment and no atomic step comes between. -/
theorem exec_reserved0_of_idle {s : State} (hs : s.fg = .idle) :
    exec .reserved0 s = .next (s.fail .refused) := by
  simp only [exec, execReserved0, hs]

/-- Settles O13: the code decides the operation, which fails at once. -/
theorem reservedCodeIsRefusedWithMinusOne : Obligations.ReservedCodeIsRefusedWithMinusOne := by
  intro w s hop hs
  refine ⟨decode_of_opField_zero hop, ?_⟩
  rw [exec_reserved0_of_idle hs, State.fail_of_idle hs]

end Sys2Proof.Machine
end

section
/-! Operations of one atomic step, and the writes of the two status fields (spec 10 R11; 40 R91 to R93). -/

namespace Sys2Proof.Machine

open Sys2Proof

/-! ## Operations that end with their first step -/

theorem State.environment_fg {s : State} (hr : s.noResetInTurn = true) : s.environment.fg = s.fg := by
  obtain ⟨_, _, _, _, _, _, _, _, _, hturn⟩ := s.environment_frame hr
  rw [hturn]

/-- The turn before the first step does not see that the operation has been accepted. -/
theorem State.environment_goTo {s : State} {op : Instr} {first : Label} {back : List Label}
    (hr : s.noResetInTurn = true) :
    (s.goTo op first back).environment = s.environment.goTo op first back :=
  s.environment_setFg _ hr

/-- An operation whose first step ends it: one turn of the environment, then that step. The sequencer stands idle
before and after, so only the result of `done(v)` shows. -/
theorem State.perform_one_step {s t : State} {op : Instr} {v : Half} {first : Label} {back : List Label}
    (hs : s.fg = .idle) (hr : s.noResetInTurn = true) (hp : s.pauseDue = false)
    (hstep : (s.environment.goTo op first back).atomic op 0 first back = .next (t.finish op v []))
    (ht : t.fg = s.environment.fg) :
    s.perform op first back = .next { t with res := v, cause := none } := by
  have hidle : t.fg = .idle := ht.trans ((State.environment_fg hr).trans hs)
  have hadv : (s.goTo op first back).advance = .next (t.finish op v []) := by
    rw [(s.goTo op first back).advance_unpaused hp, State.environment_goTo hr, State.foreground_running _ op 0 first back rfl,
      hstep]
  rw [State.perform_completes hs (.refl _) hadv rfl (by decide), State.finish_nil, ← hidle]

/-! ## SETRX and SETTX (40 R91, R92) -/

theorem exec_setrx {s : State} (c : BitVec 4) (hs : s.fg = .idle) (hr : s.noResetInTurn = true)
    (hp : s.pauseDue = false) :
    exec (.setrx c) s = .next { s.environment with rxstate := c, res := 0, cause := none } :=
  State.perform_one_step (t := { s.environment with rxstate := c }) hs hr hp rfl rfl

theorem exec_settx {s : State} (c : BitVec 4) (hs : s.fg = .idle) (hr : s.noResetInTurn = true)
    (hp : s.pauseDue = false) :
    exec (.settx c) s = .next { s.environment with txstate := c, res := 0, cause := none } :=
  State.perform_one_step (t := { s.environment with txstate := c }) hs hr hp rfl rfl

/-- Settles O14: the code 0x1 selects SETRX, whose one step follows the turn. -/
theorem setrxWritesTheReceiveField : Obligations.SetrxWritesTheReceiveField :=
  ⟨decode_append 0x1, fun _ c hs hr hp => ⟨_, exec_setrx c hs hr hp, rfl, rfl, rfl⟩⟩

/-- Settles O15: the code 0x2 selects SETTX, whose one step follows the turn; no move of the environment
writes TXOUT. -/
theorem settxWritesTheTransmitField : Obligations.SettxWritesTheTransmitField :=
  ⟨decode_append 0x2, fun s c hs hr hp => ⟨_, exec_settx c hs hr hp, rfl, rfl, rfl, s.environment_txout⟩⟩

/-! ## The two setters one after the other, the environment silent (40 R93) -/

theorem State.alone.noResetInTurn {s : State} (h : s.alone) : s.noResetInTurn = true := by
  obtain ⟨-, henv, hheld⟩ := h
  simp [State.noResetInTurn, State.turnMoves, henv, hheld]

theorem State.alone.pauseDue {s : State} (h : s.alone) : s.pauseDue = false := by
  obtain ⟨-, henv, -⟩ := h
  exact s.pauseDue_nil henv

theorem State.alone.environment {s : State} (h : s.alone) : s.environment = s := by
  obtain ⟨-, henv, hheld⟩ := h
  exact s.environment_quiet henv hheld

theorem exec_setrx_alone {s : State} (c : BitVec 4) (h : s.alone) :
    exec (.setrx c) s = .next { s with rxstate := c, res := 0, cause := none } := by
  rw [exec_setrx c h.1 h.noResetInTurn h.pauseDue, h.environment]

theorem exec_settx_alone {s : State} (c : BitVec 4) (h : s.alone) :
    exec (.settx c) s = .next { s with txstate := c, res := 0, cause := none } := by
  rw [exec_settx c h.1 h.noResetInTurn h.pauseDue, h.environment]

theorem runCalls_cons {s t : State} {i : Instr} {rest : List Call} (data : List Byte)
    (h : exec i { s with inBuf := data } = .next t) : runCalls ((i, data) :: rest) s = runCalls rest t := by
  rw [runCalls, h]

/-- The state that the two setters leave, whichever comes first. -/
def State.statusSet (s : State) (a b : BitVec 4) : State :=
  { s with inBuf := [], rxstate := a, txstate := b, res := 0, cause := none }

theorem State.statusSet_statusByte (s : State) (a b : BitVec 4) : (s.statusSet a b).statusByte = a ++ b := rfl

theorem runCalls_setrx {s : State} (a : BitVec 4) (rest : List Call) (h : s.alone) :
    runCalls ((.setrx a, []) :: rest) s =
      runCalls rest { s with inBuf := [], rxstate := a, res := 0, cause := none } :=
  runCalls_cons [] (exec_setrx_alone (s := { s with inBuf := [] }) a h)

theorem runCalls_settx {s : State} (b : BitVec 4) (rest : List Call) (h : s.alone) :
    runCalls ((.settx b, []) :: rest) s =
      runCalls rest { s with inBuf := [], txstate := b, res := 0, cause := none } :=
  runCalls_cons [] (exec_settx_alone (s := { s with inBuf := [] }) b h)

theorem runCalls_setrx_settx {s : State} (a b : BitVec 4) (h : s.alone) :
    runCalls [(.setrx a, []), (.settx b, [])] s = some (s.statusSet a b) :=
  (runCalls_setrx a _ h).trans (runCalls_settx b [] h)

theorem runCalls_settx_setrx {s : State} (a b : BitVec 4) (h : s.alone) :
    runCalls [(.settx b, []), (.setrx a, [])] s = some (s.statusSet a b) :=
  (runCalls_settx b _ h).trans (runCalls_setrx a [] h)

/-! ## Who writes the status fields (10 R11) -/

/-- The second state shows the status fields of the first. -/
def State.keepsStatus (s t : State) : Prop := t.rxstate = s.rxstate ∧ t.txstate = s.txstate

/-- The steps that write a status field. -/
def Label.writesStatus : Label → Bool
  | .setrxS1 _ | .b5 | .d3 | .settxS1 _ | .s1 | .f4 => true
  | _ => false

section KeepsStatus
variable {s t : State} {op : Instr} {back : List Label}

theorem State.keepsStatus.finish {v : Half} (h : s.keepsStatus t) : s.keepsStatus (t.finish op v back) :=
  ⟨(t.finish_rxstate op v back).trans h.1, (t.finish_txstate op v back).trans h.2⟩

theorem State.keepsStatus.ite {p : Prop} [Decidable p] {u : State} (ht : s.keepsStatus t)
    (hu : s.keepsStatus u) : s.keepsStatus (if p then t else u) := by
  by_cases hp : p
  · rwa [if_pos hp]
  · rwa [if_neg hp]

theorem State.keepsStatus_stay (timeout : Millis) : s.keepsStatus (s.stay timeout) :=
  ⟨s.stay_rxstate timeout, s.stay_txstate timeout⟩

theorem State.keepsStatus_storeClamped (b : Byte) : s.keepsStatus (s.storeClamped b) := by
  rw [s.storeClamped_frame b]
  exact ⟨rfl, rfl⟩

/-- Every step but the six named leaves both status fields. -/
theorem State.atomic_keepsStatus {r : Half} {next : Label} (hnext : next.writesStatus = false)
    (h : s.atomic op r next back = .next t) : s.keepsStatus t := by
  cases next with
  | setrxS1 _ | b5 | d3 | settxS1 _ | s1 | f4 => contradiction
  | b9 =>
    obtain ⟨v, -, e⟩ | ⟨-, e⟩ := stepB9_cases op back s <;> cases e.symm.trans h
    exact .finish ⟨rfl, rfl⟩
  | w2 d =>
    obtain ⟨-, e⟩ | ⟨-, e⟩ := stepW2_cases op d back s <;> cases e.symm.trans h
    exact .finish ⟨rfl, rfl⟩
  -- The step ends the operation or the primitive.
  | imaskS1 _ | a4 | p3 | q4r | t3 | f5 | dataDone => cases h; exact .finish ⟨rfl, rfl⟩
  -- The step tests a condition.
  | a1 | a3 | b1 | b2 | b8v | q2 | w1 _ => cases h; exact .ite ⟨rfl, rfl⟩ ⟨rfl, rfl⟩
  | p2 | dataStart _ | dataLoop _ => cases h; exact .ite ⟨rfl, rfl⟩ (.finish ⟨rfl, rfl⟩)
  | f1 _ => cases h; exact .ite (.finish ⟨rfl, rfl⟩) ⟨rfl, rfl⟩
  | b7 | f3 => cases h; exact .ite ⟨rfl, rfl⟩ (.ite ⟨rfl, rfl⟩ (keepsStatus_stay _))
  | p2r => cases h; exact keepsStatus_storeClamped _
  -- The step only goes on.
  | _ => cases h; exact ⟨rfl, rfl⟩

/-- What an atomic step can do to the status fields: nothing, or it is one of the six and writes its one field
with its own value. -/
theorem State.atomic_status_cases {r : Half} {next : Label} (h : s.atomic op r next back = .next t) :
    s.keepsStatus t ∨
    ((next = .setrxS1 t.rxstate ∨ ((next = .b5 ∨ next = .d3) ∧ t.rxstate = s.cfg.rxReady)) ∧
      t.txstate = s.txstate) ∨
    ((next = .settxS1 t.txstate ∨ (next = .s1 ∧ t.txstate = s.cfg.txPreparing) ∨
        (next = .f4 ∧ t.txstate = s.cfg.txReady)) ∧
      t.rxstate = s.rxstate) := by
  cases next with
  | setrxS1 c =>
    cases h
    exact .inr (.inl ⟨.inl (congrArg _ (finish_rxstate { s with rxstate := c } op 0 back).symm), finish_txstate ..⟩)
  | b5 => cases h; exact .inr (.inl ⟨.inr ⟨.inl rfl, rfl⟩, rfl⟩)
  | d3 => cases h; exact .inr (.inl ⟨.inr ⟨.inr rfl, finish_rxstate ..⟩, finish_txstate ..⟩)
  | settxS1 c =>
    cases h
    exact .inr (.inr ⟨.inl (congrArg _ (finish_txstate { s with txstate := c } op 0 back).symm), finish_rxstate ..⟩)
  | s1 => cases h; exact .inr (.inr ⟨.inr (.inl ⟨rfl, rfl⟩), rfl⟩)
  | f4 => cases h; exact .inr (.inr ⟨.inr (.inr ⟨rfl, rfl⟩), rfl⟩)
  | _ => exact .inl (atomic_keepsStatus rfl h)

end KeepsStatus

theorem State.foreground_leaves_a_field {s t : State} (h : s.foreground = .next t) :
    t.rxstate = s.rxstate ∨ t.txstate = s.txstate := by
  cases hs : s.fg with
  | idle =>
    rw [s.foreground_idle hs] at h
    cases h
    exact .inl rfl
  | running op r next back =>
    rw [s.foreground_running _ _ _ _ hs] at h
    obtain ⟨hrx, -⟩ | ⟨-, htx⟩ | ⟨-, hrx⟩ := State.atomic_status_cases h
    · exact .inl hrx
    · exact .inr htx
    · exact .inl hrx

theorem State.applyMove_leaves_a_field (s : State) {m : Move} (h : m.notReset = true) :
    (s.applyMove m).rxstate = s.rxstate ∨ (s.applyMove m).txstate = s.txstate := by
  obtain ⟨ms, -, e⟩ | ⟨-, e⟩ | ⟨-, c, r, -, e⟩ | ⟨-, -, e⟩ := s.applyMove_cases m h <;> rw [e]
  · exact .inl rfl
  · exact .inl rfl
  · exact .inr rfl
  · exact .inl rfl

/-- Settles O17: by the cases of an atomic step, by those of a move, and by the one state that both orders of the
setters lead to. -/
theorem statusFieldsAreIndependent : Obligations.StatusFieldsAreIndependent :=
  ⟨fun _ _ => State.foreground_leaves_a_field, fun s _ => s.applyMove_leaves_a_field, fun s a b h =>
    ⟨⟨_, runCalls_setrx_settx a b h, s.statusSet_statusByte a b⟩,
      ⟨_, runCalls_settx_setrx a b h, s.statusSet_statusByte a b⟩⟩⟩

end Sys2Proof.Machine
end

section
/-! Transitions under a schedule without a reset or a pause, and RDB inside a chunk (spec 41 R105; 60 R164). -/

namespace Sys2Proof.Machine

open Sys2Proof

/-! ## What a turn leaves of the schedule and of the reader's registers -/

theorem State.noResetInTurn_of_noReset {s : State} (h : s.noReset = true) : s.noResetInTurn = true := by
  obtain ⟨hheld, henv⟩ := Bool.and_eq_true_iff.1 h
  cases he : s.env with
  | nil => simpa [State.noResetInTurn, State.turnMoves, he] using hheld
  | cons t rest =>
    rw [he, List.all_cons, Bool.and_eq_true] at henv
    rw [State.noResetInTurn, State.turnMoves, he, List.all_append, hheld, henv.1, Bool.true_and]

theorem State.pauseDue_of_noPause {s : State} (h : s.noPause = true) : s.pauseDue = false := by
  cases he : s.env with
  | nil => exact s.pauseDue_nil he
  | cons t rest =>
    rw [State.noPause, he, List.all_cons, Bool.and_eq_true] at h
    simpa [State.pauseDue, he] using h.1

theorem State.environment_noPause {s : State} (h : s.noPause = true) : s.environment.noPause = true := by
  rw [State.noPause, List.all_eq_true] at h
  rw [State.noPause, State.environment_env, List.all_eq_true]
  exact fun t ht => h t (List.mem_of_mem_tail ht)

/-- Suppression holds a move back; it makes no reset of it. -/
theorem State.applyMove_held_notReset {s : State} {m : Move} (hs : s.held.all Move.notReset = true)
    (hm : m.notReset = true) : (s.applyMove m).held.all Move.notReset = true := by
  obtain ⟨ms, -, e⟩ | ⟨-, e⟩ | ⟨-, c, r, -, e⟩ | ⟨-, -, e⟩ := s.applyMove_cases m hm <;> rw [e]
  · exact hs
  · rw [List.all_append, hs]
    simp [hm]
  · exact hs
  · exact hs

theorem State.applyMoves_held_notReset (ms : List Move) {s : State} (hs : s.held.all Move.notReset = true)
    (hms : ms.all Move.notReset = true) : (ms.foldl State.applyMove s).held.all Move.notReset = true := by
  induction ms generalizing s with
  | nil => exact hs
  | cons m ms ih =>
    rw [List.all_cons, Bool.and_eq_true] at hms
    exact ih (State.applyMove_held_notReset hs hms.1) hms.2

theorem State.environment_noReset {s : State} (h : s.noReset = true) : s.environment.noReset = true := by
  have hturn : s.noResetInTurn = true := State.noResetInTurn_of_noReset h
  obtain ⟨-, henv⟩ := Bool.and_eq_true_iff.1 h
  rw [List.all_eq_true] at henv
  refine Bool.and_eq_true_iff.2 ⟨?_, ?_⟩
  · exact State.applyMoves_held_notReset _ (s := { s with held := [], env := s.env.tail }) rfl hturn
  · rw [State.environment_env, List.all_eq_true]
    exact fun t ht => henv t (List.mem_of_mem_tail ht)

theorem State.environment_rxpos {s : State} (hr : s.noResetInTurn = true) : s.environment.rxpos = s.rxpos := by
  obtain ⟨_, _, _, _, _, _, _, _, _, hturn⟩ := s.environment_frame hr
  rw [hturn]

theorem State.environment_rxbuf {s : State} (hr : s.noResetInTurn = true) : s.environment.rxbuf = s.rxbuf := by
  obtain ⟨_, _, _, _, _, _, _, _, _, hturn⟩ := s.environment_frame hr
  rw [hturn]

/-! ## One transition: the turn, then the step that stands -/

section Turns

variable {s e t : State} {op : Instr} {r : Half} {next : Label} {back : List Label}

theorem State.advance_turn (hp : s.pauseDue = false) (he : s.environment = e)
    (hs : e.fg = .running op r next back) : s.advance = e.atomic op r next back := by
  rw [s.advance_unpaused hp, he, e.foreground_running _ _ _ _ hs]

/-- One transition, whatever its turn does, that does not end the operation. -/
theorem Reaches.turn {op' : Instr} {r' : Half} {next' : Label} {back' : List Label} (hp : s.pauseDue = false)
    (he : s.environment = e) (hs : e.fg = .running op r next back) (ha : e.atomic op r next back = .next t)
    (ht : t.fg = .running op' r' next' back') : Reaches 1 s t :=
  .one hp ((State.advance_turn hp he hs).trans ha) (t.idle_false _ _ _ _ ht)

/-- The last transition, whatever its turn does. -/
theorem Leads.turn (hp : s.pauseDue = false) (he : s.environment = e) (hs : e.fg = .running op r next back)
    (ha : e.atomic op r next back = .next t) : Leads 0 s t :=
  ⟨s, .refl s, hp, (State.advance_turn hp he hs).trans ha⟩

end Turns

/-! ## RDB inside a chunk, under any schedule (41 R105) -/

/-- Two transitions, B1 and B9. What the two turns did stands in the state besides. -/
theorem rdb_in_chunk_leads_scheduled {s : State} {op : Instr} {r : Half} {back : List Label} {v : Byte}
    (hs : s.fg = .running op r .b1 back) (hr : s.noReset = true) (hp : s.noPause = true)
    (hv : s.rxbuf[s.rxpos.toNat]? = some v) :
    Leads 1 s ({ s.environment.environment with rxpos := s.rxpos + 1 }.finish op (byteResult v) back) := by
  have hturn : s.noResetInTurn = true := State.noResetInTurn_of_noReset hr
  have hturn' : s.environment.noResetInTurn = true :=
    State.noResetInTurn_of_noReset (State.environment_noReset hr)
  have hpos : s.environment.rxpos = s.rxpos := State.environment_rxpos hturn
  have hpos' : s.environment.environment.rxpos = s.rxpos := (State.environment_rxpos hturn').trans hpos
  have hbuf' : s.environment.environment.rxbuf = s.rxbuf :=
    (State.environment_rxbuf hturn').trans (State.environment_rxbuf hturn)
  have hb1 : Reaches 1 s (s.environment.goTo op .b9 back) := by
    refine Reaches.turn (State.pauseDue_of_noPause hp) rfl ((State.environment_fg hturn).trans hs) ?_ rfl
    have hlt : s.rxpos.toNat < 32 := (Vector.getElem?_eq_some_iff.1 hv).1
    simp only [State.atomic, stepB1, hpos, if_pos hlt]
  refine Leads.after hb1 (Leads.turn (State.pauseDue_of_noPause (State.environment_noPause hp))
    (State.environment_goTo hturn') rfl ?_)
  simp only [State.atomic, stepB9, State.goTo_rxbuf, State.goTo_rxpos, hpos', hbuf', hv]
  cases back <;> rfl

/-- Settles O22: neither of the two turns touches the working buffer or the cursor. -/
theorem rdbInsideAChunkNeverFails : Obligations.RdbInsideAChunkNeverFails := by
  intro s v hs hr hp hv
  have hturn : s.noResetInTurn = true := State.noResetInTurn_of_noReset hr
  have hturn' : s.environment.noResetInTurn = true :=
    State.noResetInTurn_of_noReset (State.environment_noReset hr)
  have hlead := rdb_in_chunk_leads_scheduled (s := s.goTo .rdb .b1 []) rfl hr hp hv
  refine ⟨_, State.perform_leads hs hlead rfl (by decide), rfl, rfl, rfl, rfl, ?_⟩
  rw [State.environment_goTo hturn, State.environment_goTo hturn']
  exact (State.environment_rxbuf hturn').trans (State.environment_rxbuf hturn)

end Sys2Proof.Machine
end

section
/-! RDB at the boundary of a chunk, the next chunk delivered during its wait (spec 41 R102 B1 to B9, R106; 60 R172). -/

namespace Sys2Proof.Machine

open Sys2Proof

/-! ## Turns of one move -/

theorem State.environment_tick {s : State} {m : Millis} {rest : List Turn} (hh : s.held = [])
    (he : s.env = ⟨[.tick m], false⟩ :: rest) : s.environment = { s with now := s.now + m, env := rest } := by
  simp [State.environment, State.turnMoves, State.applyMove, hh, he]

theorem State.environment_delivery {s : State} {chunk : Chunk} {ref : Nat} {rest : List Turn} (hh : s.held = [])
    (hq : s.irqOff = false) (he : s.env = ⟨[.rx chunk ref], false⟩ :: rest) :
    s.environment = ({ s with env := rest } : State).chunkReceived chunk ref := by
  simp [State.environment, State.turnMoves, State.applyMove, hh, he, hq]

theorem State.pauseDue_cons {s : State} {ms : List Move} {rest : List Turn} (he : s.env = ⟨ms, false⟩ :: rest) :
    s.pauseDue = false := by
  simp [State.pauseDue, he]

/-- One transition in whose turn only time passes. -/
theorem Reaches.tick {s t : State} {op op' : Instr} {r r' : Half} {next next' : Label} {back back' : List Label}
    {m : Millis} {rest : List Turn} (hh : s.held = []) (he : s.env = ⟨[.tick m], false⟩ :: rest)
    (hs : s.fg = .running op r next back)
    (ha : ({ s with now := s.now + m, env := rest } : State).atomic op r next back = .next t)
    (ht : t.fg = .running op' r' next' back') : Reaches 1 s t :=
  .turn (State.pauseDue_cons he) (State.environment_tick hh he) hs ha ht

theorem arrival_cons (m : Millis) (ms : List Millis) (chunk : Chunk) (ref : Nat) :
    arrival (m :: ms) chunk ref = ⟨[.tick m], false⟩ :: arrival ms chunk ref := rfl

theorem arrival_ne_nil (ms : List Millis) (chunk : Chunk) (ref : Nat) : arrival ms chunk ref ≠ [] := by
  simp [arrival]

theorem length_arrival (ms : List Millis) (chunk : Chunk) (ref : Nat) :
    (arrival ms chunk ref).length = ms.length + 1 := by
  simp [arrival, ticks]

/-! ## The poll B7 -/

section Polls

variable {s : State} (op : Instr) (back : List Label)

theorem stepB7_flag (hd : s.dataReceived = true) : stepB7 op back s = s.goTo op .b8 back := by
  rw [stepB7, if_pos hd]

/-- Neither exit, and the schedule goes on. -/
theorem stepB7_stays (hd : s.dataReceived = false) (hx : expired s.cfg.rxTimeoutMs s.now s.t0 = false)
    (he : s.env ≠ []) : stepB7 op back s = s.goTo op .b7 back := by
  rw [stepB7, if_neg (by simp [hd]), if_neg (by simp [hx]), s.stay_scheduled _ he]

end Polls

/-- Time that passes adds to the elapsed time no more than itself: the subtraction may wrap, and then it is less. -/
theorem elapsed_add_le (now t0 m : Millis) : (now + m - t0).toNat ≤ (now - t0).toNat + m.toNat := by
  rw [show now + m - t0 = now - t0 + m by ring, BitVec.toNat_add]
  exact Nat.mod_le _ _

theorem totalMillis_cons (m : Millis) (ms : List Millis) :
    totalMillis (m :: ms) = m.toNat + totalMillis ms := by
  simp [totalMillis]

/-- The wait B7, a chunk delivered before the timeout: every poll before the delivery stays, and the poll after it
finds the flag. -/
theorem rdb_wait_reaches {s : State} {op : Instr} {r : Half} {back : List Label} {chunk : Chunk} {ref : Nat}
    (ms : List Millis) (hh : s.held = []) (hq : s.irqOff = false) (hs : s.fg = .running op r .b7 back)
    (hd : s.dataReceived = false) (he : s.env = arrival ms chunk ref)
    (hx : (s.now - s.t0).toNat + totalMillis ms < s.cfg.rxTimeoutMs.toNat) :
    Reaches (ms.length + 1) s
      ((({ s with now := s.later ms, env := [] } : State).chunkReceived chunk ref).goTo op .b8 back) := by
  induction ms generalizing s r with
  | nil =>
    refine Reaches.turn (State.pauseDue_cons he) (State.environment_delivery hh hq he) hs ?_ rfl
    exact congrArg Host.Outcome.next (stepB7_flag op back rfl)
  | cons m ms ih =>
    rw [totalMillis_cons] at hx
    have helapsed := elapsed_add_le s.now s.t0 m
    have hpoll : Reaches 1 s (({ s with now := s.now + m, env := arrival ms chunk ref } : State).goTo op .b7 back) := by
      refine Reaches.tick hh he hs ?_ rfl
      refine congrArg Host.Outcome.next (stepB7_stays op back hd ?_ (arrival_ne_nil ms chunk ref))
      exact decide_eq_false (by simp only; omega)
    have hrest := ih (s := ({ s with now := s.now + m, env := arrival ms chunk ref } : State).goTo op .b7 back)
      hh hq rfl hd rfl (by simp only [State.goTo_now, State.goTo_t0, State.goTo_cfg]; omega)
    rw [List.length_cons, Nat.add_comm]
    exact hpoll.trans hrest

/-! ## The whole of RDB at the boundary -/

/-- What B3 to B5 leave: the flag cleared, the drained chunk invalidated, the next one invited. -/
def State.invited (s : State) : State :=
  { s.invalidate with dataReceived := false, rxstate := s.cfg.rxReady }

/-- B1 to B5, time passing before each. -/
theorem rdb_invites_reaches {s : State} {op : Instr} {r : Half} {back : List Label} {m₁ m₂ m₃ m₄ m₅ : Millis}
    {rest : List Turn} (hh : s.held = []) (hs : s.fg = .running op r .b1 back) (hb : 32 ≤ s.rxpos.toNat)
    (hc : s.rxbuf[0] = s.cfg.indContinues) (he : s.env = ticks [m₁, m₂, m₃, m₄, m₅] ++ rest) :
    Reaches 5 s
      (({ s.invited with now := s.later [m₁, m₂, m₃, m₄, m₅], env := rest } : State).goTo op .b6 back) := by
  have hb1 : Reaches 1 s
      (({ s with now := s.later [m₁], env := ticks [m₂, m₃, m₄, m₅] ++ rest } : State).goTo op .b2 back) :=
    .tick hh he hs (congrArg Host.Outcome.next (if_neg (Nat.not_lt.2 hb))) rfl
  have hb2 := hb1.trans (.tick hh rfl rfl (congrArg Host.Outcome.next (if_pos hc)) rfl)
  exact ((hb2.trans (.tick hh rfl rfl rfl rfl)).trans (.tick hh rfl rfl rfl rfl)).trans (.tick hh rfl rfl rfl rfl)

/-- B6 and the wait: T0 is the time at B6, before which one more turn has passed or the chunk has come already. -/
theorem rdb_timed_wait_reaches {s : State} {op : Instr} {r : Half} {back : List Label} {chunk : Chunk} {ref : Nat}
    {ms : List Millis} (hh : s.held = []) (hq : s.irqOff = false) (hs : s.fg = .running op r .b6 back)
    (hd : s.dataReceived = false) (he : s.env = arrival ms chunk ref)
    (hx : totalMillis (ms.drop 1) < s.cfg.rxTimeoutMs.toNat) :
    ∃ n ≤ ms.length + 2, Reaches n s
      ((({ s with t0 := s.later (ms.take 1), now := s.later ms, env := [] } : State).chunkReceived chunk ref).goTo
        op .b8 back) := by
  cases ms with
  | nil =>
    have hb6 := Reaches.turn (State.pauseDue_cons he) (State.environment_delivery hh hq he) hs rfl rfl
    exact ⟨2, Nat.le_refl 2, hb6.trans (.quiet rfl hh rfl (congrArg Host.Outcome.next (stepB7_flag op back rfl)) rfl)⟩
  | cons m ms =>
    have hb6 := Reaches.tick hh he hs rfl rfl
    have hwait := rdb_wait_reaches (op := op) (r := 0) (back := back) (chunk := chunk) (ref := ref)
      (s := ({ s with now := s.now + m, t0 := s.now + m, env := arrival ms chunk ref } : State).goTo op .b7 back)
      ms hh hq rfl hd rfl (by simpa using hx)
    exact ⟨1 + (ms.length + 1), by simp only [List.length_cons]; omega, hb6.trans hwait⟩

/-- RDB at the boundary up to the copy of the chunk delivered in time, called from any operation. -/
theorem rdb_continuation_reaches {s : State} {op : Instr} {r : Half} {back : List Label} {d : Delivery}
    (hh : s.held = []) (hq : s.irqOff = false) (hs : s.fg = .running op r .b1 back) (hb : 32 ≤ s.rxpos.toNat)
    (hc : s.rxbuf[0] = s.cfg.indContinues) (he : s.env = arrival d.ms d.chunk d.ref) (hd : d.inTime s.cfg) :
    ∃ n ≤ d.ms.length + 3, Reaches n s ((s.afterWait d).goTo op .b8v back) := by
  obtain ⟨ms, chunk, ref⟩ := d
  obtain ⟨hlen, htime⟩ := hd
  match ms, hlen, htime, he with
  | m₁ :: m₂ :: m₃ :: m₄ :: m₅ :: ms, _, htime, he =>
    have hinvite := rdb_invites_reaches hh hs hb hc he
    obtain ⟨n, hn, hwait⟩ := rdb_timed_wait_reaches (op := op) (r := 0) (back := back) (chunk := chunk) (ref := ref)
      (s := ({ s.invited with now := s.later [m₁, m₂, m₃, m₄, m₅], env := arrival ms chunk ref } : State).goTo
        op .b6 back) (ms := ms) hh hq rfl rfl rfl htime
    refine ⟨5 + n + 1, by simp only [List.length_cons]; omega, (hinvite.trans hwait).trans ?_⟩
    exact .quiet rfl hh rfl rfl rfl

theorem isIndicator_of_tagged {c : Config} {chunk : Chunk} (h : tagged c chunk) :
    isIndicator c chunk[0] = true := by
  simpa [isIndicator, tagged] using h

/-- RDB at the boundary, the chunk delivered in time and tagged (41 R102), called from any operation: its first
payload byte is returned. -/
theorem rdb_continuation_leads {s : State} {op : Instr} {r : Half} {back : List Label} {d : Delivery}
    (hh : s.held = []) (hq : s.irqOff = false) (hs : s.fg = .running op r .b1 back) (hb : 32 ≤ s.rxpos.toNat)
    (hc : s.rxbuf[0] = s.cfg.indContinues) (he : s.env = arrival d.ms d.chunk d.ref) (hd : d.inTime s.cfg)
    (ht : tagged s.cfg d.chunk) :
    ∃ n ≤ d.ms.length + 5, Leads n s
      (({ s.afterWait d with rxpos := 2, readFailed := false } : State).finish op (byteResult d.chunk[1]) back) := by
  obtain ⟨n, hn, hcopied⟩ := rdb_continuation_reaches hh hq hs hb hc he hd
  have hvalid : Reaches 1 ((s.afterWait d).goTo op .b8v back) ((s.afterWait d).goTo op .b8r back) :=
    .quiet rfl hh rfl (congrArg Host.Outcome.next (if_pos (isIndicator_of_tagged ht))) rfl
  have haccept : Reaches 1 ((s.afterWait d).goTo op .b8r back) ((s.afterWait d).acceptChunk.goTo op .b9 back) :=
    .quiet rfl hh rfl rfl rfl
  have hread : Leads 0 ((s.afterWait d).acceptChunk.goTo op .b9 back)
      (({ s.afterWait d with rxpos := 2, readFailed := false } : State).finish op (byteResult d.chunk[1]) back) := by
    refine .quiet rfl hh rfl ?_
    cases back <;> rfl
  exact ⟨n + 1 + 1 + 0, by omega, .after ((hcopied.trans hvalid).trans haccept) hread⟩

/-- The schedule's length is in the bound of the run, so a delivery after any number of turns is waited for. -/
theorem exec_rdb_continuation {s : State} {d : Delivery} (hs : s.fg = .idle) (hh : s.held = [])
    (hq : s.irqOff = false) (hb : 32 ≤ s.rxpos.toNat) (hc : s.rxbuf[0] = s.cfg.indContinues)
    (he : s.env = arrival d.ms d.chunk d.ref) (hd : d.inTime s.cfg) (ht : tagged s.cfg d.chunk) :
    exec .rdb s = .next
      (({ s.afterWait d with rxpos := 2, readFailed := false } : State).finished (byteResult d.chunk[1])) := by
  obtain ⟨n, hn, u, hu, -, ha⟩ :=
    rdb_continuation_leads (s := s.goTo .rdb .b1 []) (op := .rdb) (r := 0) (back := []) hh hq rfl hb hc he hd ht
  simp only [exec, execRdb, State.perform, hs]
  refine State.runOn_completes hu ha rfl ?_
  rw [State.budget, he, length_arrival]
  omega

end Sys2Proof.Machine
end

section
/-! The reader over a message of any number of chunks (spec 41 R101, R105, R106). -/

namespace Sys2Proof.Machine

open Sys2Proof

/-! ## RXACC, the environment silent (41 R101) -/

/-- What RXACC leaves of a tagged chunk, but for its result. -/
def State.accepted (s : State) : State :=
  { s with rxbuf := s.xbuf, uncopied := false, rxpos := 1, readFailed := false }

theorem exec_rxacc_tagged {s : State} (h : s.alone) (hd : s.dataReceived = true) (ht : tagged s.cfg s.xbuf) :
    exec .rxacc s = .next (s.accepted.finished 0) := by
  obtain ⟨hs, he, hh⟩ := h
  have ha1 : Reaches 1 (s.goTo .rxacc .a1 []) (s.goTo .rxacc .a2 []) :=
    .quiet he hh rfl (congrArg Host.Outcome.next (if_pos hd)) rfl
  have ha2 : Reaches 1 (s.goTo .rxacc .a2 []) (s.copyChunk.goTo .rxacc .a3 []) := .quiet he hh rfl rfl rfl
  have ha3 : Reaches 1 (s.copyChunk.goTo .rxacc .a3 []) (s.copyChunk.goTo .rxacc .a4 []) :=
    .quiet he hh rfl (congrArg Host.Outcome.next (if_pos (isIndicator_of_tagged ht))) rfl
  have ha4 : Leads 0 (s.copyChunk.goTo .rxacc .a4 []) (s.accepted.finished 0) := .quiet he hh rfl rfl
  exact State.perform_leads hs (.after ((ha1.trans ha2).trans ha3) ha4) rfl (by decide)

/-! ## Reading inside a chunk -/

theorem readMany_succ {n : Nat} {s t u : State} {rs : List Half} (h : exec .rdb s = .next t)
    (hn : readMany n t = some (rs, u)) : readMany (n + 1) s = some (t.res :: rs, u) := by
  rw [readMany, h]
  simp only [hn]

theorem exec_rdb_in_chunk {s : State} {v : Byte} (h : s.alone) (hv : s.rxbuf[s.rxpos.toNat]? = some v) :
    exec .rdb s = .next (({ s with rxpos := s.rxpos + 1 } : State).finished (byteResult v)) := by
  obtain ⟨hs, he, hh⟩ := h
  exact State.perform_leads hs (rdb_in_chunk_leads (s := s.goTo .rdb .b1 []) he hh rfl hv) rfl (by decide)

theorem exec_rdb_closed {s : State} (h : s.alone) (hc : s.readClosed) :
    exec .rdb s = .next (s.failed .noContinuation) := by
  obtain ⟨hs, he, hh⟩ := h
  exact State.perform_leads hs (rdb_closed_leads (s := s.goTo .rdb .b1 []) he hh rfl hc) rfl (by decide)

/-- The machine is idle in a silent environment with this chunk in RXBUF and the cursor at this index, and takes
notifications. -/
structure State.ReadsAt (s : State) (c : Config) (chunk : Chunk) (k : Nat) : Prop where
  alone : s.alone
  cfg : s.cfg = c
  irqOff : s.irqOff = false
  rxbuf : s.rxbuf = chunk
  rxpos : s.rxpos.toNat = k

/-- The next `n` bytes of a chunk from an index on. -/
def chunkBytes (chunk : Chunk) (k n : Nat) : List Byte := (chunk.toList.drop k).take n

theorem chunkBytes_succ {chunk : Chunk} {k : Nat} (n : Nat) (hk : k < 32) :
    chunkBytes chunk k (n + 1) = chunk[k] :: chunkBytes chunk (k + 1) n := by
  rw [chunkBytes, List.drop_eq_getElem_cons (by simpa using hk), List.take_succ_cons]
  rfl

theorem payload_eq_chunkBytes (chunk : Chunk) : payload chunk = chunkBytes chunk 1 31 := by
  rw [payload, chunkBytes, List.take_of_length_le (by simp)]

theorem payload_eq_cons (chunk : Chunk) : payload chunk = chunk[1] :: chunkBytes chunk 2 30 :=
  (payload_eq_chunkBytes chunk).trans (chunkBytes_succ 30 (by decide))

theorem State.ReadsAt.reads_byte {s : State} {c : Config} {chunk : Chunk} {k : Nat} (h : s.ReadsAt c chunk k)
    (hk : k < 32) : ∃ t, exec .rdb s = .next t ∧ t.res = byteResult chunk[k] ∧ t.ReadsAt c chunk (k + 1) := by
  obtain ⟨halone, hcfg, hirq, rfl, rfl⟩ := h
  refine ⟨_, exec_rdb_in_chunk halone (Vector.getElem?_eq_getElem hk), rfl, ⟨rfl, halone.2⟩, hcfg, hirq, rfl, ?_⟩
  show (s.rxpos + 1).toNat = s.rxpos.toNat + 1
  bv_omega

/-- Inside a chunk so many RDB return the bytes from the cursor on. -/
theorem State.ReadsAt.reads_bytes {c : Config} {chunk : Chunk} (n : Nat) {s : State} {k : Nat}
    (h : s.ReadsAt c chunk k) (hk : k + n ≤ 32) :
    ∃ t, readMany n s = some ((chunkBytes chunk k n).map byteResult, t) ∧ t.ReadsAt c chunk (k + n) := by
  induction n generalizing s k with
  | zero => exact ⟨s, rfl, h⟩
  | succ n ih =>
    obtain ⟨t, hexec, hres, ht⟩ := h.reads_byte (by omega)
    obtain ⟨u, hmany, hu⟩ := ih ht (by omega)
    refine ⟨u, ?_, (by omega : k + 1 + n = k + (n + 1)) ▸ hu⟩
    rw [readMany_succ hexec hmany, chunkBytes_succ n (by omega), List.map_cons, hres]

/-! ## Reading from chunk to chunk -/

/-- The chunks are tagged as those of one message (30 R61). -/
def TaggedAsMessage (c : Config) (chunks : List Chunk) : Prop :=
  (∀ ch ∈ chunks.dropLast, ch[0] = c.indContinues) ∧ (∀ ch ∈ chunks.getLast?, ch[0] = c.indFinished)

theorem taggedAsMessage_singleton {c : Config} {a : Chunk} : TaggedAsMessage c [a] ↔ a[0] = c.indFinished := by
  simp [TaggedAsMessage]

theorem taggedAsMessage_cons_cons {c : Config} {a b : Chunk} {rest : List Chunk} :
    TaggedAsMessage c (a :: b :: rest) ↔ a[0] = c.indContinues ∧ TaggedAsMessage c (b :: rest) := by
  simp [TaggedAsMessage, and_assoc]

theorem TaggedAsMessage.head_tagged {c : Config} {a : Chunk} {rest : List Chunk}
    (h : TaggedAsMessage c (a :: rest)) : tagged c a := by
  cases rest with
  | nil => exact .inr (taggedAsMessage_singleton.1 h)
  | cons b rest => exact .inl (taggedAsMessage_cons_cons.1 h).1

theorem readContinuations_cons {d : Delivery} {ds : List Delivery} {s s₁ s₂ s₃ : State} {r rs qs : List Half}
    (hfirst : readMany 1 { s with env := arrival d.ms d.chunk d.ref } = some (r, s₁))
    (hchunk : readMany 30 s₁ = some (rs, s₂)) (hrest : readContinuations ds s₂ = some (qs, s₃)) :
    readContinuations (d :: ds) s = some (r ++ rs ++ qs, s₃) := by
  rw [readContinuations, hfirst]
  simp only [hchunk, hrest]

/-- The RDB at the boundary, during whose wait the next chunk is delivered, returns the first payload byte. -/
theorem State.ReadsAt.reads_next_chunk {s : State} {c : Config} {chunk : Chunk} {d : Delivery}
    (h : s.ReadsAt c chunk 32) (hc : chunk[0] = c.indContinues) (hd : d.inTime c) (ht : tagged c d.chunk) :
    ∃ t, exec .rdb { s with env := arrival d.ms d.chunk d.ref } = .next t ∧ t.res = byteResult d.chunk[1] ∧
      t.ReadsAt c d.chunk 2 := by
  obtain ⟨⟨hs, -, hh⟩, rfl, hirq, rfl, hpos⟩ := h
  exact ⟨_, exec_rdb_continuation (s := { s with env := arrival d.ms d.chunk d.ref }) hs hh hirq hpos.ge
    hc rfl hd ht, rfl, ⟨rfl, rfl, hh⟩, rfl, hirq, rfl, rfl⟩

/-- From the boundary of one chunk of a message the rest is read as the payloads of its chunks, up to the boundary
of the final one. -/
theorem State.ReadsAt.reads_rest_of_message {c : Config} (ds : List Delivery) {s : State} {chunk : Chunk}
    (h : s.ReadsAt c chunk 32) (hd : ∀ d ∈ ds, d.inTime c)
    (ht : TaggedAsMessage c (chunk :: ds.map Delivery.chunk)) :
    ∃ t last, readContinuations ds s = some (((ds.map Delivery.chunk).flatMap payload).map byteResult, t) ∧
      t.ReadsAt c last 32 ∧ last[0] = c.indFinished := by
  induction ds generalizing s chunk with
  | nil => exact ⟨s, chunk, rfl, h, taggedAsMessage_singleton.1 ht⟩
  | cons d ds ih =>
    obtain ⟨hc, hrest⟩ := taggedAsMessage_cons_cons.1 ht
    obtain ⟨hd1, hds⟩ := List.forall_mem_cons.1 hd
    obtain ⟨t₁, hexec, hres, ht₁⟩ := h.reads_next_chunk hc hd1 hrest.head_tagged
    obtain ⟨t₂, hmany, ht₂⟩ := ht₁.reads_bytes 30 (Nat.le_refl 32)
    obtain ⟨t₃, last, hcont, ht₃, hlast⟩ := ih ht₂ hds hrest
    refine ⟨t₃, last, ?_, ht₃, hlast⟩
    rw [readContinuations_cons (readMany_succ hexec rfl) hmany hcont, hres, List.map_cons, List.flatMap_cons,
      payload_eq_cons, List.map_append, List.map_cons]
    rfl

/-- At the boundary of the final chunk RDB fails. -/
theorem State.ReadsAt.fails_after_message {s : State} {c : Config} {chunk : Chunk} (h : s.ReadsAt c chunk 32)
    (hc : chunk[0] = c.indFinished) (hvalid : c.valid = true) :
    exec .rdb s = .next (s.failed .noContinuation) := by
  obtain ⟨halone, rfl, -, rfl, hpos⟩ := h
  refine exec_rdb_closed halone ⟨hpos.ge, fun heq => ?_⟩
  have hdiffer : s.cfg.indContinues ≠ s.cfg.indFinished := by
    simp only [Config.valid, Config.indicatorsDiffer, Bool.and_eq_true, bne_iff_ne] at hvalid
    obtain ⟨⟨⟨⟨⟨hne, -⟩, -⟩, -⟩, -⟩, -⟩ := hvalid
    exact hne
  exact hdiffer (heq.symm.trans hc)

/-- Settles O33: RXACC puts the cursor on the first payload byte, the reads inside each chunk return its payload,
and each boundary but the last one is crossed. -/
theorem readerReassemblesTheMessage : Obligations.ReaderReassemblesTheMessage := by
  intro s c0 ds halone hvalid hirq hrecv hxbuf hd hcont hfin
  have ht : TaggedAsMessage s.cfg (c0 :: ds.map Delivery.chunk) := ⟨hcont, hfin⟩
  have haccept := exec_rxacc_tagged halone hrecv (hxbuf ▸ ht.head_tagged)
  have hstart : (s.accepted.finished 0).ReadsAt s.cfg c0 1 := ⟨⟨rfl, halone.2⟩, rfl, hirq, hxbuf, rfl⟩
  obtain ⟨b, hmany, hb⟩ := hstart.reads_bytes 31 (Nat.le_refl 32)
  obtain ⟨t, last, hrest, hend, hlast⟩ := hb.reads_rest_of_message ds hd ht
  refine ⟨_, _, b, _, t, haccept, rfl, hmany, hrest, ?_, hend.fails_after_message hlast hvalid⟩
  rw [← payload_eq_chunkBytes, ← List.map_append, List.flatMap_cons]
  rfl

end Sys2Proof.Machine
end

section
/-! Runs of the transmit side under a schedule without a reset or a pause: what they count, and what of the state
the turns leave alone (spec 60 R164, R171, R172). -/

namespace Sys2Proof.Machine

open Sys2Proof

/-! ## The block's own part of the state -/

/-- Neither the schedule nor what is held back has a reset or a pause in it. -/
structure State.Calm (s : State) : Prop where
  noReset : s.noReset = true
  noPause : s.noPause = true

theorem State.Calm.noResetInTurn {s : State} (h : s.Calm) : s.noResetInTurn = true :=
  State.noResetInTurn_of_noReset h.noReset

theorem State.Calm.environment {s : State} (h : s.Calm) : s.environment.Calm :=
  ⟨State.environment_noReset h.noReset, State.environment_noPause h.noPause⟩

/-- The schedule and what is held back decide. -/
theorem State.Calm.congr {s t : State} (h : s.Calm) (henv : t.env = s.env) (hheld : t.held = s.held) : t.Calm := by
  obtain ⟨hr, hp⟩ := h
  exact ⟨by rwa [State.noReset, henv, hheld], by rwa [State.noPause, henv]⟩

/-- The state without what the turns of the environment write, and without what only FLUSH's wait writes (T0 and
the count of timeouts): these fields stand at fixed values. A transmit operation does the same in two states with one
own part, but for how long it waits. -/
def State.own (s : State) : State :=
  { s with
    rxstate := 0, txstate := 0, dataReceived := false, dataSent := false, rxref := 0, xbuf := zeroChunk,
    now := 0, t0 := 0, ackTimeouts := 0, held := [], uncopied := false, env := [] }

theorem State.Calm.environment_own {s : State} (h : s.Calm) : s.environment.own = s.own := by
  obtain ⟨_, _, _, _, _, _, _, _, _, hturn⟩ := s.environment_frame h.noResetInTurn
  rw [hturn]
  rfl

theorem State.Calm.environment_t0 {s : State} (h : s.Calm) : s.environment.t0 = s.t0 := by
  obtain ⟨_, _, _, _, _, _, _, _, _, hturn⟩ := s.environment_frame h.noResetInTurn
  rw [hturn]

theorem State.Calm.environment_ackTimeouts {s : State} (h : s.Calm) :
    s.environment.ackTimeouts = s.ackTimeouts := by
  obtain ⟨_, _, _, _, _, _, _, _, _, hturn⟩ := s.environment_frame h.noResetInTurn
  rw [hturn]

theorem State.own_fg_eq {s u : State} (h : s.own = u.own) : s.fg = u.fg :=
  show s.own.fg = u.own.fg from congrArg _ h
theorem State.own_cfg_eq {s u : State} (h : s.own = u.own) : s.cfg = u.cfg :=
  show s.own.cfg = u.own.cfg from congrArg _ h
theorem State.own_txpos_eq {s u : State} (h : s.own = u.own) : s.txpos = u.txpos :=
  show s.own.txpos = u.own.txpos from congrArg _ h

theorem State.own_idle_eq {s u : State} (h : s.own = u.own) : s.idle = u.idle :=
  show s.own.idle = u.own.idle from congrArg _ h

/-- An update that neither reads nor keeps what the own part leaves out. -/
theorem State.own_congr {s u : State} (f : State → State) (h : s.own = u.own)
    (hf : ∀ x, (f x).own = (f x.own).own := by exact fun _ => rfl) : (f s).own = (f u).own := by
  rw [hf s, h, ← hf u]

/-- A state with the same own part, as an update of the other. -/
theorem State.eq_update_of_own_eq {s u : State} (h : s.own = u.own) :
    ∃ rs ts dr ds rr xb nw t0 at' hd uc ev, s =
      { u with
        rxstate := rs, txstate := ts, dataReceived := dr, dataSent := ds, rxref := rr, xbuf := xb, now := nw,
        t0 := t0, ackTimeouts := at', held := hd, uncopied := uc, env := ev } := by
  refine ⟨s.rxstate, s.txstate, s.dataReceived, s.dataSent, s.rxref, s.xbuf, s.now, s.t0, s.ackTimeouts, s.held,
    s.uncopied, s.env, ?_⟩
  cases s
  cases u
  simp only [State.own, State.mk.injEq] at h ⊢
  simpa using h

/-- `done(v)` overwrites the sequencer's state. -/
theorem State.own_finish_congr {s u : State} (op : Instr) (v : Half) (back : List Label)
    (h : ({ s with fg := .idle } : State).own = ({ u with fg := .idle } : State).own) :
    (s.finish op v back).own = (u.finish op v back).own := by
  have hfinish : ∀ x : State, (x.finish op v back).own = ({ x with fg := .idle } : State).own.finish op v back := by
    intro x
    cases back <;> rfl
  rw [hfinish, h, ← hfinish]

theorem State.own_stay (s : State) (timeout : Millis) : (s.stay timeout).own = s.own := by
  unfold State.stay
  split <;> rfl

theorem State.own_flushed {s u : State} (h : s.own = u.own) (ind : Byte) :
    (s.flushed ind).own = (u.flushed ind).own := by
  obtain ⟨_, _, _, _, _, _, _, _, _, _, _, _, rfl⟩ := State.eq_update_of_own_eq h
  by_cases h0 : u.txpos = 0
  · rw [State.flushed, State.flushed, if_pos h0, if_pos h0]
    rfl
  · rw [State.flushed, State.flushed, if_neg h0, if_neg h0]
    rfl

/-! ## Runs that are counted against the schedule -/

/-- The run comes from `s` to a state with `Q`, in at most `c` transitions besides one for each turn of the
schedule it uses up; the last of them may end the operation. -/
def Within (c : Nat) (s : State) (Q : State → Prop) : Prop :=
  ∃ n t, Leads n s t ∧ t.Calm ∧ n + 1 + t.env.length ≤ c + s.env.length ∧ Q t

section Within

variable {a b c : Nat} {s t : State} {Q R : State → Prop}

theorem Within.mono (h : Within a s Q) (hab : a ≤ b) (hQR : ∀ t, Q t → R t) : Within b s R := by
  obtain ⟨n, t, hlead, hcalm, hn, hQ⟩ := h
  exact ⟨n, t, hlead, hcalm, by omega, hQR t hQ⟩

theorem Within.trans (h : Within a s Q) (hQ : ∀ t, Q t → t.idle = false)
    (k : ∀ t, t.Calm → Q t → Within b t R) : Within (a + b) s R := by
  obtain ⟨n, t, hlead, hcalm, hn, ht⟩ := h
  obtain ⟨m, u, hlead', hcalm', hm, hu⟩ := k t hcalm ht
  exact ⟨n + 1 + m, u, .after (hlead.reaches (hQ t ht)) hlead', hcalm', by omega, hu⟩

/-- One transition, the turn and then the step that stands. Where it uses up a turn, `c` may be 0. -/
theorem Within.step_costs {op : Instr} {r : Half} {next : Label} {back : List Label} (hs : s.Calm)
    (hfg : s.fg = .running op r next back) (ha : s.environment.atomic op r next back = .next t)
    (henv : t.env = s.environment.env) (hheld : t.held = s.environment.held)
    (hcost : 1 + (s.env.length - 1) ≤ c + s.env.length) (hQ : Q t) : Within c s Q := by
  have hfg' : s.environment.fg = .running op r next back := (State.environment_fg hs.noResetInTurn).trans hfg
  refine ⟨0, t, .turn (State.pauseDue_of_noPause hs.noPause) rfl hfg' ha, hs.environment.congr henv hheld, ?_, hQ⟩
  rw [henv, State.environment_env, List.length_tail]
  omega

/-- One transition. -/
theorem Within.step {op : Instr} {r : Half} {next : Label} {back : List Label} (hs : s.Calm)
    (hfg : s.fg = .running op r next back) (ha : s.environment.atomic op r next back = .next t)
    (henv : t.env = s.environment.env) (hheld : t.held = s.environment.held) (hQ : Q t) : Within 1 s Q :=
  .step_costs hs hfg ha henv hheld (by omega) hQ

end Within

/-- An accepted operation that comes to an idle state within the bound answers it. -/
theorem State.perform_within {c : Nat} {s : State} {op : Instr} {first : Label} {back : List Label}
    {Q : State → Prop} (hs : s.fg = .idle) (h : Within c (s.goTo op first back) Q)
    (hidle : ∀ t, Q t → t.fg = .idle) (hc : c ≤ 1048576) :
    ∃ t, s.perform op first back = .next t ∧ t.Calm ∧ Q t := by
  obtain ⟨n, t, ⟨u, hu, -, ha⟩, hcalm, hn, hQ⟩ := h
  refine ⟨t, ?_, hcalm, hQ⟩
  simp only [State.perform, hs]
  refine State.runOn_completes hu ha (hidle t hQ) ?_
  simp only [State.budget, State.goTo_env] at hn ⊢
  omega

end Sys2Proof.Machine
end

section
/-! FLUSH under a schedule without a reset or a pause (spec 42 R134, R146, R148). -/

namespace Sys2Proof.Machine

open Sys2Proof

/-! ## What the adapter holds back -/

/-- The move is a notification. -/
def Move.notifies : Move → Bool
  | .rx _ _ | .tx => true
  | .tick _ | .rst => false

theorem State.applyMove_held_notifies {s : State} (m : Move) (hs : s.held.all Move.notifies = true) :
    (s.applyMove m).held.all Move.notifies = true := by
  cases m with
  | rx _ _ | tx => cases hq : s.irqOff <;> simp [State.applyMove, hq, hs, Move.notifies]
  | tick _ | rst => exact hs

theorem State.applyMoves_held_notifies (ms : List Move) {s : State} (hs : s.held.all Move.notifies = true) :
    (ms.foldl State.applyMove s).held.all Move.notifies = true := by
  induction ms generalizing s with
  | nil => exact hs
  | cons m ms ih => exact ih (s.applyMove_held_notifies m hs)

/-- Only notifications are held back, whatever was held back before the turn. -/
theorem State.environment_held_notifies (s : State) : s.environment.held.all Move.notifies = true :=
  State.applyMoves_held_notifies _ (s := { s with held := [], env := s.env.tail }) rfl

theorem State.applyMove_now_of_notifies {s : State} {m : Move} (hm : m.notifies = true) :
    (s.applyMove m).now = s.now := by
  cases m with
  | rx _ _ | tx => cases hq : s.irqOff <;> simp [State.applyMove, hq]
  | tick _ | rst => contradiction

theorem State.applyMoves_now_of_notifies (ms : List Move) {s : State} (hms : ms.all Move.notifies = true) :
    (ms.foldl State.applyMove s).now = s.now := by
  induction ms generalizing s with
  | nil => rfl
  | cons m ms ih =>
    obtain ⟨hm, hrest⟩ := Bool.and_eq_true_iff.1 hms
    exact (ih hrest).trans (State.applyMove_now_of_notifies hm)

/-- With the schedule used up no time passes but at the polls. -/
theorem State.environment_now {s : State} (he : s.env = []) (hh : s.held.all Move.notifies = true) :
    s.environment.now = s.now := by
  refine State.applyMoves_now_of_notifies (s.held ++ s.turnMoves) (s := { s with held := [], env := s.env.tail }) ?_
  rwa [State.turnMoves, he, List.append_nil]

/-! ## The poll F3 -/

section Polls

variable {s : State} (op : Instr) (back : List Label)

theorem stepF3_flag (hd : s.dataSent = true) : stepF3 op back s = s.goTo op .f4 back := by
  rw [stepF3, if_pos hd]

theorem stepF3_expired (hd : s.dataSent = false) (hx : expired s.cfg.txTimeoutMs s.now s.t0 = true) :
    stepF3 op back s = ({ s with ackTimeouts := s.ackTimeouts + 1 } : State).goTo op .f4 back := by
  rw [stepF3, if_neg (by simp [hd]), if_pos hx]

theorem stepF3_stays (hd : s.dataSent = false) (hx : expired s.cfg.txTimeoutMs s.now s.t0 = false) :
    stepF3 op back s = (s.stay s.cfg.txTimeoutMs).goTo op .f3 back := by
  rw [stepF3, if_neg (by simp [hd]), if_neg (by simp [hx])]

end Polls

/-- FLUSH's wait is over: nothing but the count of timeouts has changed, and that by at most one. -/
def State.waited (s : State) (op : Instr) (back : List Label) (t : State) : Prop :=
  t.own = (s.goTo op .f4 back).own ∧ (t.ackTimeouts = s.ackTimeouts ∨ t.ackTimeouts = s.ackTimeouts + 1)

section Wait

variable {s : State} {op : Instr} {r : Half} {back : List Label}

/-- A poll that finds one of the exits ends the wait. -/
theorem flush_poll_within (hs : s.Calm) (hfg : s.fg = .running op r .f3 back)
    (hexit : s.environment.dataSent = true ∨
      expired s.environment.cfg.txTimeoutMs s.environment.now s.environment.t0 = true) :
    Within 1 s (s.waited op back) := by
  cases hd : s.environment.dataSent with
  | true =>
    exact .step hs hfg (congrArg Host.Outcome.next (stepF3_flag op back hd)) rfl rfl
      ⟨State.own_congr (·.goTo op .f4 back) hs.environment_own, .inl hs.environment_ackTimeouts⟩
  | false =>
    have hx := hexit.resolve_left (by simp [hd])
    exact .step hs hfg (congrArg Host.Outcome.next (stepF3_expired op back hd hx)) rfl rfl
      ⟨State.own_congr (·.goTo op .f4 back) hs.environment_own, .inr (congrArg (· + 1) hs.environment_ackTimeouts)⟩

/-- A poll that finds neither exit stays: it uses up a turn, or the time runs to the deadline and no turn can move
it any more. -/
structure State.Stayed (s : State) (op : Instr) (back : List Label) (t : State) : Prop where
  own : t.own = (s.goTo op .f3 back).own
  ackTimeouts : t.ackTimeouts = s.ackTimeouts
  env : t.env = s.env.tail
  deadline : s.env.tail = [] → t.now = t.t0 + t.cfg.txTimeoutMs
  held : t.held.all Move.notifies = true

theorem flush_stay_within {c : Nat} (hs : s.Calm) (hfg : s.fg = .running op r .f3 back)
    (hd : s.environment.dataSent = false)
    (hx : expired s.environment.cfg.txTimeoutMs s.environment.now s.environment.t0 = false)
    (hcost : 1 + (s.env.length - 1) ≤ c + s.env.length) : Within c s (s.Stayed op back) := by
  refine .step_costs hs hfg (congrArg Host.Outcome.next (stepF3_stays op back hd hx)) ?_ ?_ hcost
    ⟨?_, ?_, ?_, ?_, ?_⟩
  · exact s.environment.stay_env _
  · exact s.environment.stay_held _
  · exact State.own_congr (·.goTo op .f3 back) ((s.environment.own_stay _).trans hs.environment_own)
  · exact (s.environment.stay_ackTimeouts _).trans hs.environment_ackTimeouts
  · exact (s.environment.stay_env _).trans s.environment_env
  · intro he
    rw [s.environment.stay_exhausted _ (s.environment_env.trans he)]
    rfl
  · rw [State.goTo_held, State.stay_held]
    exact s.environment_held_notifies

/-- At the deadline, the schedule used up, the next poll finds the timeout if it does not find the flag. -/
theorem flush_deadline_within (hs : s.Calm) (hfg : s.fg = .running op r .f3 back) (he : s.env = [])
    (hh : s.held.all Move.notifies = true) (hnow : s.now = s.t0 + s.cfg.txTimeoutMs) :
    Within 1 s (s.waited op back) := by
  refine flush_poll_within hs hfg (.inr ?_)
  rw [State.environment_now he hh, hs.environment_t0, State.environment_cfg, hnow]
  exact expired_refl _ _

theorem State.Stayed.waited_of {t u : State} (ht : s.Stayed op back t) (hu : t.waited op back u) :
    s.waited op back u := by
  obtain ⟨hown, hack⟩ := hu
  exact ⟨hown.trans (State.own_congr (·.goTo op .f4 back) ht.own :), ht.ackTimeouts ▸ hack⟩

/-- The first poll of the wait, and the rest of it where the poll stays. -/
theorem flush_poll_then {a b : Nat} (hs : s.Calm) (hfg : s.fg = .running op r .f3 back)
    (hcost : 1 + (s.env.length - 1) ≤ a + s.env.length) (hb : 1 ≤ b)
    (hrest : ∀ t, t.Calm → s.Stayed op back t → Within b t (t.waited op back)) :
    Within (a + b) s (s.waited op back) := by
  by_cases hexit : s.environment.dataSent = true ∨
      expired s.environment.cfg.txTimeoutMs s.environment.now s.environment.t0 = true
  · exact (flush_poll_within hs hfg hexit).mono (by omega) fun _ h => h
  · simp only [not_or, Bool.not_eq_true] at hexit
    obtain ⟨hd, hx⟩ := hexit
    refine (flush_stay_within hs hfg hd hx hcost).trans
      (fun _ ht => State.own_idle_eq ht.own) fun t hcalm ht => ?_
    exact (hrest t hcalm ht).mono (Nat.le_refl b) fun _ => ht.waited_of

/-- The wait ends: a poll that stays uses up a turn, and with the schedule used up there is at most one such. -/
theorem flush_wait_within (hs : s.Calm) (hfg : s.fg = .running op r .f3 back) :
    Within 2 s (s.waited op back) := by
  obtain ⟨n, hn⟩ : ∃ n, s.env.length = n := ⟨_, rfl⟩
  induction n generalizing s r with
  | zero =>
    have he : s.env = [] := List.length_eq_zero_iff.1 hn
    refine flush_poll_then (a := 1) (b := 1) hs hfg (by omega) (by omega) fun t hcalm ht => ?_
    have htail : s.env.tail = [] := by rw [he, List.tail_nil]
    exact flush_deadline_within hcalm (State.own_fg_eq ht.own) (ht.env.trans htail) ht.held (ht.deadline htail)
  | succ n ih =>
    refine flush_poll_then (a := 0) (b := 2) hs hfg (by omega) (by omega) fun t hcalm ht => ?_
    refine ih hcalm (State.own_fg_eq ht.own) ?_
    rw [ht.env, List.length_tail, hn, Nat.add_sub_cancel]

end Wait

/-! ## The whole of FLUSH -/

/-- What the peer sees after a hand-off, the peer having consumed the chunk or not, a turn keeps. -/
theorem State.environment_offered_or_idle {s : State} (h : s.txOffered ∨ s.txIdle) :
    s.environment.txOffered ∨ s.environment.txIdle := by
  refine State.environment_keeps (fun u => u.txOffered ∨ u.txIdle) (fun _ _ _ h => h) ?_ s h
  intro u m hu
  cases m with
  | rx _ _ => cases hq : u.irqOff <;> simpa [State.applyMove, hq, State.txOffered, State.txIdle] using hu
  | tx =>
    cases hq : u.irqOff
    · exact .inr ⟨by simp [State.applyMove, hq], by simp [State.applyMove, hq]⟩
    · simpa [State.applyMove, hq, State.txOffered, State.txIdle] using hu
  | tick _ => exact hu
  | rst => exact .inr ⟨rfl, rfl⟩

/-- FLUSH has ended, under whatever schedule: the state is the one of a silent flush but for the fields of the
environment and of the wait, and of these the count of timeouts and the transmit state are known. -/
structure State.FlushedAs (s : State) (op : Instr) (ind : Byte) (back : List Label) (t : State) : Prop where
  own : t.own = ((s.flushed ind).finish op 0 back).own
  ackTimeouts : t.ackTimeouts = s.ackTimeouts ∨ t.ackTimeouts = s.ackTimeouts + 1
  status : s.txpos ≠ 0 → t.txOffered ∨ t.txIdle

section Flush

variable {s : State} {op : Instr} {r : Half} {ind : Byte} {back : List Label}

theorem flush_empty_within (hs : s.Calm) (hfg : s.fg = .running op r (.f1 ind) back) (h0 : s.txpos = 0) :
    Within 1 s (s.FlushedAs op ind back) := by
  have hpos : s.environment.txpos = 0 := (State.own_txpos_eq hs.environment_own).trans h0
  refine .step hs hfg (congrArg Host.Outcome.next (if_pos hpos)) (State.finish_env ..) (State.finish_held ..)
    ⟨?_, .inl ?_, fun hne => absurd h0 hne⟩
  · rw [State.flushed, if_pos h0]
    exact State.own_finish_congr op 0 back
      (State.own_congr (fun x => { x with fg := .idle, ind := ind }) hs.environment_own :)
  · exact (State.finish_ackTimeouts ..).trans hs.environment_ackTimeouts

/-- F1 and F2. -/
theorem flush_begins_within (hs : s.Calm) (hfg : s.fg = .running op r (.f1 ind) back) (h0 : s.txpos ≠ 0) :
    Within 2 s fun t =>
      t.own = (({ s with ind := ind } : State).goTo op .f3 back).own ∧ t.ackTimeouts = s.ackTimeouts := by
  have hpos : s.environment.txpos ≠ 0 := (State.own_txpos_eq hs.environment_own).trans_ne h0
  have hf1 : Within 1 s fun t =>
      t.own = (({ s with ind := ind } : State).goTo op .f2 back).own ∧ t.ackTimeouts = s.ackTimeouts :=
    .step hs hfg (congrArg Host.Outcome.next (if_neg hpos)) rfl rfl
      ⟨State.own_congr (fun x => ({ x with ind := ind } : State).goTo op .f2 back) hs.environment_own,
        hs.environment_ackTimeouts⟩
  refine hf1.trans (b := 1) (fun _ ⟨hown, _⟩ => State.own_idle_eq hown) fun t hcalm ⟨hown, hack⟩ => ?_
  exact .step hcalm (State.own_fg_eq hown) rfl rfl rfl
    ⟨(State.own_congr (·.goTo op .f3 back) (hcalm.environment_own.trans hown) :),
      hcalm.environment_ackTimeouts.trans hack⟩

/-- F4 and F5. -/
theorem flush_hands_off_within (hs : s.Calm) (hfg : s.fg = .running op r .f4 back) :
    Within 2 s fun t => t.own = (({ s.handOff with txpos := 0 } : State).finish op 0 back).own ∧
      t.ackTimeouts = s.ackTimeouts ∧ (t.txOffered ∨ t.txIdle) := by
  have hf4 : Within 1 s fun t =>
      t.own = (s.handOff.goTo op .f5 back).own ∧ t.ackTimeouts = s.ackTimeouts ∧ t.txOffered :=
    .step hs hfg rfl rfl rfl
      ⟨State.own_congr (·.handOff.goTo op .f5 back) hs.environment_own, hs.environment_ackTimeouts,
        rfl, rfl⟩
  refine hf4.trans (b := 1) (fun _ ⟨hown, _⟩ => State.own_idle_eq hown)
    fun t hcalm ⟨hown, hack, hoffered⟩ => ?_
  refine .step hcalm (State.own_fg_eq hown) rfl (State.finish_env ..) (State.finish_held ..) ⟨?_, ?_, ?_⟩
  · exact State.own_finish_congr op 0 back
      (State.own_congr (fun x => { x with fg := .idle, txpos := 0 }) (hcalm.environment_own.trans hown) :)
  · exact (State.finish_ackTimeouts ..).trans (hcalm.environment_ackTimeouts.trans hack)
  · simpa only [State.txOffered, State.txIdle, stepF5, State.finish_txstate, State.finish_dataSent, State.finish_cfg]
      using State.environment_offered_or_idle (.inl hoffered)

/-- FLUSH under any schedule, called from any operation. -/
theorem flush_within (hs : s.Calm) (hfg : s.fg = .running op r (.f1 ind) back) :
    Within 6 s (s.FlushedAs op ind back) := by
  by_cases h0 : s.txpos = 0
  · exact (flush_empty_within hs hfg h0).mono (by omega) fun _ h => h
  refine (flush_begins_within hs hfg h0).trans (b := 4)
    (fun _ ⟨hown, _⟩ => State.own_idle_eq hown) fun t hcalm ⟨hown, hack⟩ => ?_
  refine (flush_wait_within hcalm (State.own_fg_eq hown)).trans (b := 2)
    (fun _ ⟨hwait, _⟩ => State.own_idle_eq hwait) fun u hcalm' ⟨hwait, hcount⟩ => ?_
  refine (flush_hands_off_within hcalm' (State.own_fg_eq hwait)).mono (Nat.le_refl 2)
    fun v ⟨hdone, hack', hstatus⟩ => ⟨?_, ?_, fun _ => hstatus⟩
  · rw [hdone, State.flushed, if_neg h0]
    exact State.own_finish_congr op 0 back (State.own_congr (fun x => { x.handOff with fg := .idle, txpos := 0 })
      (hwait.trans (State.own_congr (·.goTo op .f4 back) hown)) :)
  · rwa [hack', ← hack]

end Flush

theorem State.flushed_finish (s : State) (op op' : Instr) (ind : Byte) (next : Label) (back back' : List Label) :
    ((s.goTo op next back).flushed ind).finish op' 0 back' = (s.flushed ind).finish op' 0 back' := by
  rw [State.goTo, State.flushed_setFg]
  cases back' <;> rfl

theorem exec_flush_scheduled {s : State} (ind : Byte) (hidle : s.fg = .idle) (hs : s.Calm) :
    ∃ t, exec (.flush ind) s = .next t ∧ t.Calm ∧ s.FlushedAs (.flush ind) ind [] t := by
  obtain ⟨t, hexec, hcalm, hown, hack, hstatus⟩ := State.perform_within hidle
    (flush_within (s := s.goTo (.flush ind) (.f1 ind) []) (hs.congr rfl rfl) rfl)
    (fun _ ht => State.own_fg_eq ht.own) (by decide)
  rw [State.flushed_finish] at hown
  exact ⟨t, hexec, hcalm, hown, hack, hstatus⟩

theorem exec_flush_alone {s : State} (ind : Byte) (h : s.alone) :
    exec (.flush ind) s = .next ((s.flushed ind).finished 0) := by
  obtain ⟨hs, he, hh⟩ := h
  obtain ⟨n, hn, hlead⟩ := flush_leads (s := s.goTo (.flush ind) (.f1 ind) []) (back := []) he hh rfl
  rw [State.flushed_finish] at hlead
  exact State.perform_leads hs hlead rfl (by omega)

/-- Settles O39: the exit by the timeout is the exit by the flag but for the ghost; under any schedule FLUSH is a
silent flush but for the fields of the environment and of the wait; in silence only the time and the ghost differ. -/
theorem acknowledgementTimeoutGoesOn : Obligations.AcknowledgementTimeoutGoesOn := by
  refine ⟨?_, ?_, ?_⟩
  · intro s op r back hfg hd hx
    refine ⟨({ s with dataSent := true } : State).goTo op .f4 back, ?_, rfl, ?_⟩
    · rw [State.foreground_running { s with dataSent := true } _ _ _ _ hfg]
      exact congrArg Host.Outcome.next (stepF3_flag op back rfl)
    · rw [s.foreground_running _ _ _ _ hfg, ← hd]
      exact congrArg Host.Outcome.next (stepF3_expired op back hd (decide_eq_true hx))
  · intro s ind hidle hr hp h0
    obtain ⟨t, hexec, -, hown, hack, hstatus⟩ := exec_flush_scheduled ind hidle ⟨hr, hp⟩
    rw [State.flushed, if_neg h0] at hown
    have hcfg : t.cfg = s.cfg := (State.own_cfg_eq hown :)
    refine ⟨t, hexec, (State.own_fg_eq hown :), (congrArg State.res hown :), (congrArg State.cause hown :),
      (State.own_txpos_eq hown :), (congrArg State.txbuf hown :), (congrArg State.txout hown :),
      (congrArg State.txLog hown :), hack, ?_⟩
    obtain ⟨htx, hds⟩ | ⟨htx, hds⟩ := hstatus h0
    · exact .inl ⟨hds, hcfg ▸ htx⟩
    · exact .inr ⟨hds, hcfg ▸ htx⟩
  · intro s ind halone hd h0
    refine ⟨_, s.now + s.cfg.txTimeoutMs, exec_flush_alone (s := { s with dataSent := true }) ind halone, ?_,
      rfl, rfl⟩
    rw [exec_flush_alone ind halone, State.flushed, State.flushed, if_neg h0, if_neg h0, hd]
    rfl

end Sys2Proof.Machine
end

section
/-! A reply in composition, and that its hand-offs are the chunks of its message (spec 30 R67; 42 R132, R134, R142). -/

namespace Sys2Proof.Machine

open Sys2Proof

/-- The reply in composition: the payload bytes now in TXBUF, the hand-offs so far and the last of them, under the
configuration. -/
structure Draft where
  cfg : Config
  buffered : List Byte
  log : List (List Byte)
  last : List Byte

/-- FLUSH of a reply in composition. -/
def Draft.flush (k : Draft) (ind : Byte) : Draft :=
  if k.buffered = [] then k
  else { k with buffered := [], log := k.log ++ [ind :: k.buffered], last := ind :: k.buffered }

/-- WRB of one more byte. -/
def Draft.append (k : Draft) (d : Byte) : Draft :=
  if 31 ≤ k.buffered.length then { k.flush k.cfg.indContinues with buffered := [d] }
  else { k with buffered := k.buffered ++ [d] }

/-- WRB of several bytes, one after another. -/
def Draft.appendAll (k : Draft) (ds : List Byte) : Draft := ds.foldl Draft.append k

theorem Draft.appendAll_append (k : Draft) (as bs : List Byte) :
    k.appendAll (as ++ bs) = (k.appendAll as).appendAll bs :=
  List.foldl_append

/-! ## FLUSH and WRB, case by case -/

theorem Draft.flush_of_nonempty {k : Draft} (ind : Byte) (h : k.buffered ≠ []) :
    k.flush ind = { k with buffered := [], log := k.log ++ [ind :: k.buffered], last := ind :: k.buffered } :=
  if_neg h

theorem Draft.flush_buffered (k : Draft) (ind : Byte) : (k.flush ind).buffered = [] := by
  by_cases h : k.buffered = []
  · rw [Draft.flush, if_pos h, h]
  · rw [k.flush_of_nonempty ind h]

theorem Draft.append_of_full {k : Draft} (d : Byte) (h : 31 ≤ k.buffered.length) :
    k.append d = { k with
      buffered := [d], log := k.log ++ [k.cfg.indContinues :: k.buffered],
      last := k.cfg.indContinues :: k.buffered } := by
  have hne : k.buffered ≠ [] := fun hnil => by simp [hnil] at h
  rw [Draft.append, if_pos h, k.flush_of_nonempty _ hne]

theorem Draft.append_of_room {k : Draft} (d : Byte) (h : k.buffered.length < 31) :
    k.append d = { k with buffered := k.buffered ++ [d] } := by
  rw [Draft.append, if_neg (Nat.not_le.2 h)]

theorem Draft.appendAll_of_room {k : Draft} (ds : List Byte) (h : k.buffered.length + ds.length ≤ 31) :
    k.appendAll ds = { k with buffered := k.buffered ++ ds } := by
  induction ds generalizing k with
  | nil => rw [List.append_nil]; rfl
  | cons d ds ih =>
    rw [List.length_cons] at h
    rw [Draft.appendAll, List.foldl_cons, Draft.append_of_room d (by omega)]
    refine (ih (by simp only [List.length_append, List.length_singleton]; omega)).trans ?_
    simp only [List.append_assoc, List.singleton_append]

theorem Draft.append_cfg (k : Draft) (d : Byte) : (k.append d).cfg = k.cfg := by
  by_cases h : 31 ≤ k.buffered.length
  · rw [Draft.append_of_full d h]
  · rw [Draft.append_of_room d (Nat.not_le.1 h)]

theorem Draft.appendAll_cfg (k : Draft) (ds : List Byte) : (k.appendAll ds).cfg = k.cfg := by
  induction ds generalizing k with
  | nil => rfl
  | cons d ds ih => exact (ih (k.append d)).trans (k.append_cfg d)

/-! ## The chunks of a message, one by one (30 R67) -/

theorem chunkStream_last (c : Config) {m : List Byte} (hne : m ≠ []) (h : m.length ≤ 31) :
    chunkStream c m = [c.indFinished :: m] := by
  have hpos : 0 < m.length := List.length_pos_iff.2 hne
  have hcount : (m.length + 30) / 31 = 1 := by omega
  simp [chunkStream, hcount, List.take_of_length_le h]

theorem chunkStream_cons (c : Config) {b m : List Byte} (hb : b.length = 31) (hne : m ≠ []) :
    chunkStream c (b ++ m) = (c.indContinues :: b) :: chunkStream c m := by
  have hpos : 0 < m.length := List.length_pos_iff.2 hne
  have hcount : ((b ++ m).length + 30) / 31 = (m.length + 30) / 31 + 1 := by
    rw [List.length_append, hb]
    omega
  have hmore : ¬ 0 + 1 = (m.length + 30) / 31 + 1 := by omega
  have hdrop : ∀ k, (b ++ m).drop (31 * (k + 1)) = m.drop (31 * k) := by
    intro k
    rw [Nat.mul_succ, Nat.add_comm, ← List.drop_drop, List.drop_left' hb]
  rw [chunkStream, hcount, List.range_succ_eq_map, List.map_cons, List.map_map, if_neg hmore, Nat.mul_zero,
    List.drop_zero, List.take_left' hb, chunkStream]
  refine congrArg _ (List.map_congr_left fun k _ => ?_)
  simp only [Function.comp_apply, Nat.succ_eq_add_one, hdrop, Nat.add_right_cancel_iff]

/-- Appending a message and then flushing with IND_FINISHED hands off its chunk stream, what was buffered before it
included. -/
theorem Draft.log_of_message (m : List Byte) {k : Draft} (hroom : k.buffered.length ≤ 31)
    (hne : k.buffered ++ m ≠ []) :
    ((k.appendAll m).flush k.cfg.indFinished).log = k.log ++ chunkStream k.cfg (k.buffered ++ m) := by
  induction m generalizing k with
  | nil =>
    rw [List.append_nil] at hne ⊢
    rw [chunkStream_last k.cfg hne hroom]
    exact congrArg Draft.log (k.flush_of_nonempty _ hne)
  | cons d m ih =>
    have hstep : k.appendAll (d :: m) = (k.append d).appendAll m := rfl
    rw [hstep, ← k.append_cfg d]
    by_cases hfull : 31 ≤ k.buffered.length
    · rw [ih (by simp [k.append_of_full d hfull]) (by simp [k.append_of_full d hfull]), k.append_of_full d hfull]
      rw [chunkStream_cons k.cfg (by omega) (List.cons_ne_nil d m), List.append_assoc]
      rfl
    · have hlt : k.buffered.length < 31 := Nat.not_le.1 hfull
      rw [ih (by simp [k.append_of_room d hlt]; omega) (by simp [k.append_of_room d hlt]), k.append_of_room d hlt]
      simp only [List.append_assoc, List.singleton_append]

end Sys2Proof.Machine
end

section
/-! WRB under a schedule without a reset or a pause, and the data bytes of WRP and WRP16 (spec 42 R132, R136, R138). -/

namespace Sys2Proof.Machine

open Sys2Proof

/-! ## The reply in composition that a state holds -/

/-- The payload bytes now in TXBUF. -/
def State.buffered (s : State) : List Byte := (payload s.txbuf).take s.txpos.toNat

/-- The reply in composition that the state holds. -/
def State.draft (s : State) : Draft := ⟨s.cfg, s.buffered, s.txLog, s.txout⟩

theorem length_payload (c : Chunk) : (payload c).length = 31 := by
  simp [payload]

theorem State.length_buffered (s : State) : s.buffered.length = s.txpos.toNat := by
  have := s.txpos.isLt
  rw [State.buffered, List.length_take, length_payload]
  omega

theorem State.buffered_eq_nil_iff (s : State) : s.buffered = [] ↔ s.txpos = 0 := by
  rw [← List.length_eq_zero_iff, s.length_buffered]
  exact ⟨fun h => BitVec.eq_of_toNat_eq h, fun h => h ▸ rfl⟩

theorem payload_setIfInBounds (c : Chunk) (k : Nat) (d : Byte) :
    payload (c.setIfInBounds (1 + k) d) = (payload c).set k d := by
  simp [payload, List.drop_set]

/-- A chunk as far as a cursor, with an indicator in byte 0. -/
theorem take_tagged (c : Chunk) (ind : Byte) (n : Nat) :
    (c.set 0 ind).toList.take (n + 1) = ind :: (payload c).take n := by
  have hlen : c.toList.length = 32 := c.length_toList
  rw [payload, Vector.toList_set]
  cases hc : c.toList with
  | nil => simp [hc] at hlen
  | cons x xs => rfl

theorem State.buffered_put {s : State} (d : Byte) (h : s.txpos.toNat < 31) :
    (s.put d).buffered = s.buffered ++ [d] := by
  have hpos : (s.put d).txpos.toNat = s.txpos.toNat + 1 := by
    show (s.txpos + 1).toNat = s.txpos.toNat + 1
    bv_omega
  have hlen : s.txpos.toNat < (payload s.txbuf).length := by rwa [length_payload]
  rw [State.buffered, hpos, State.put, payload_setIfInBounds, List.take_add_one, List.take_set_of_le (Nat.le_refl _),
    List.getElem?_set_self hlen]
  rfl

theorem State.draft_flushed (s : State) (ind : Byte) :
    (s.flushed ind).draft = s.draft.flush ind := by
  by_cases h0 : s.txpos = 0
  · have hnil : s.draft.buffered = [] := s.buffered_eq_nil_iff.2 h0
    rw [State.flushed, if_pos h0, Draft.flush, if_pos hnil]
    rfl
  · have hne : s.draft.buffered ≠ [] := mt s.buffered_eq_nil_iff.1 h0
    rw [State.flushed, if_neg h0, s.draft.flush_of_nonempty ind hne, take_tagged]
    rfl

theorem State.draft_put {s : State} (d : Byte) (h : s.txpos.toNat < 31) :
    (s.put d).draft = { s.draft with buffered := s.buffered ++ [d] } := by
  rw [State.draft, State.buffered_put d h]
  rfl

theorem State.draft_appended (s : State) (d : Byte) : (s.appended d).draft = s.draft.append d := by
  have hlen : s.draft.buffered.length = s.txpos.toNat := s.length_buffered
  by_cases h : 31 ≤ s.txpos.toNat
  · obtain ⟨-, -, -, hempty, -⟩ := s.flushed_frame s.cfg.indContinues
    have hnil : (s.flushed s.cfg.indContinues).buffered = [] := (State.buffered_eq_nil_iff _).2 hempty
    rw [State.appended, if_pos h, Draft.append, if_pos (hlen ▸ h), State.draft_put d (by simp [hempty]), hnil,
      State.draft_flushed]
    rfl
  · have hroom : s.txpos.toNat < 31 := Nat.not_le.1 h
    rw [State.appended, if_neg h, State.draft_put d hroom, Draft.append_of_room d (hlen ▸ hroom)]
    rfl

@[simp] theorem State.draft_finish (s : State) (op : Instr) (v : Half) (back : List Label) :
    (s.finish op v back).draft = s.draft := by
  cases back <;> rfl

theorem State.draft_congr {s u : State} (h : s.own = u.own) : s.draft = u.draft :=
  show s.own.draft = u.own.draft from congrArg _ h

/-! ## Runs between own parts -/

/-- From every state with the own part of `u` and a calm schedule the run comes to one with the own part of `v`, in
at most `c` transitions besides one for each turn used up. -/
def Goes (c : Nat) (u v : State) : Prop :=
  ∀ s : State, s.Calm → s.own = u.own → Within c s fun t => t.own = v.own

theorem Goes.trans {a b : Nat} {u v w : State} (h : Goes a u v) (k : Goes b v w) (hv : v.idle = false) :
    Goes (a + b) u w := fun s hs hown =>
  (h s hs hown).trans (fun _ ht => (State.own_idle_eq ht).trans hv) fun t ht htown => k t ht htown

theorem Goes.mono {a b : Nat} {u v : State} (h : Goes a u v) (hab : a ≤ b) : Goes b u v := fun s hs hown =>
  (h s hs hown).mono hab fun _ ht => ht

/-- The steps of the transmit operations, FLUSH excepted. -/
def Label.composes : Label → Bool
  | .s1 | .s2 | .s3 | .s4 _ | .s5 _ | .w1 _ | .w2 _ | .u1 _ | .v1 _ | .v2 _ | .dataStart _ | .dataLoop _ | .dataDone
  | .e1 | .e2 => true
  | _ => false

/-- The step answers in `s` as `v` has it, but for the fields of the environment and the wait, and it leaves the
schedule and what is held back. -/
def AnswersAs (s : State) (x : Host.Outcome State Fault Refusal) (v : State) : Prop :=
  ∃ t, x = .next t ∧ t.own = v.own ∧ t.env = s.env ∧ t.held = s.held

theorem AnswersAs.finish {s t v : State} {op : Instr} {back : List Label} (h : AnswersAs s (.next t) v) :
    AnswersAs s (.next (t.finish op 0 back)) (v.finish op 0 back) := by
  obtain ⟨_, ⟨⟩, hown, henv, hheld⟩ := h
  exact ⟨_, rfl, State.own_finish_congr op 0 back (State.own_congr (fun x => { x with fg := .idle }) hown),
    (State.finish_env ..).trans henv, (State.finish_held ..).trans hheld⟩

theorem AnswersAs.ite {p : Prop} [Decidable p] {s t t' v v' : State} (hthen : AnswersAs s (.next t) v)
    (helse : AnswersAs s (.next t') v') : AnswersAs s (.next (if p then t else t')) (if p then v else v') := by
  by_cases hp : p
  · simpa only [if_pos hp] using hthen
  · simpa only [if_neg hp] using helse

/-- Such a step does the same in two states with one own part. -/
theorem atomic_answersAs {s u v : State} {op : Instr} {r : Half} {next : Label} {back : List Label}
    (hn : next.composes = true) (h : s.own = u.own) (ha : u.atomic op r next back = .next v) :
    AnswersAs s (s.atomic op r next back) v := by
  obtain ⟨_, _, _, _, _, _, _, _, _, _, _, _, rfl⟩ := State.eq_update_of_own_eq h
  cases next with
  | s1 | s2 | s3 | s4 _ | s5 _ | u1 _ | v1 _ | v2 _ | e1 | e2 => cases ha; exact ⟨_, rfl, rfl, rfl, rfl⟩
  | w1 _ => cases ha; exact .ite ⟨_, rfl, rfl, rfl, rfl⟩ ⟨_, rfl, rfl, rfl, rfl⟩
  | w2 d =>
    obtain ⟨hroom, e⟩ | ⟨-, e⟩ := stepW2_cases op d back u <;> cases e.symm.trans ha
    rw [State.atomic, stepW2, if_pos (by simp only; omega)]
    exact .finish ⟨_, rfl, rfl, rfl, rfl⟩
  | dataStart _ => cases ha; exact .ite ⟨_, rfl, rfl, rfl, rfl⟩ (.finish ⟨_, rfl, rfl, rfl, rfl⟩)
  | dataLoop _ => cases ha; exact .ite ⟨_, rfl, rfl, rfl, rfl⟩ (.finish ⟨_, rfl, rfl, rfl, rfl⟩)
  | dataDone => cases ha; exact .finish ⟨_, rfl, rfl, rfl, rfl⟩
  | _ => contradiction

theorem Goes.step {u v : State} {op : Instr} {r : Half} {next : Label} {back : List Label}
    (hfg : u.fg = .running op r next back) (ha : u.atomic op r next back = .next v)
    (hn : next.composes = true := by rfl) : Goes 1 u v := by
  intro s hs hown
  obtain ⟨t, hatomic, htown, henv, hheld⟩ := atomic_answersAs hn (hs.environment_own.trans hown) ha
  exact .step hs ((State.own_fg_eq hown).trans hfg) hatomic henv hheld htown

theorem flush_goes {u : State} {op : Instr} {r : Half} {ind : Byte} {back : List Label}
    (hfg : u.fg = .running op r (.f1 ind) back) : Goes 6 u ((u.flushed ind).finish op 0 back) := by
  intro s hs hown
  refine (flush_within hs ((State.own_fg_eq hown).trans hfg)).mono (Nat.le_refl 6) fun t ht => ht.own.trans ?_
  exact State.own_finish_congr op 0 back
    (State.own_congr (fun x => { x with fg := .idle }) (State.own_flushed hown ind))

/-! ## WRB (42 R132) -/

theorem State.appended_finish (s : State) (op op' : Instr) (d : Byte) (next : Label) (back back' : List Label) :
    ((s.goTo op next back).appended d).finish op' 0 back' = (s.appended d).finish op' 0 back' := by
  rw [State.goTo, State.appended_setFg]
  cases back' <;> rfl

theorem put_goes {u : State} {op : Instr} {r : Half} {d : Byte} {back : List Label}
    (hfg : u.fg = .running op r (.w2 d) back) (h : u.txpos.toNat < 31) : Goes 1 u ((u.put d).finish op 0 back) :=
  .step hfg (if_pos (by omega))

/-- WRB under any schedule, called from any operation. -/
theorem wrb_goes {u : State} {op : Instr} {r : Half} {d : Byte} {back : List Label}
    (hfg : u.fg = .running op r (.w1 d) back) : Goes 8 u ((u.appended d).finish op 0 back) := by
  by_cases h : 31 ≤ u.txpos.toNat
  · have hw1 : Goes 1 u (u.goTo op (.f1 u.cfg.indContinues) (.w2 d :: back)) :=
      .step hfg (congrArg Host.Outcome.next (if_pos h))
    have hflush : Goes 6 (u.goTo op (.f1 u.cfg.indContinues) (.w2 d :: back))
        ((u.flushed u.cfg.indContinues).goTo op (.w2 d) back) := by
      have := flush_goes (u := u.goTo op (.f1 u.cfg.indContinues) (.w2 d :: back)) rfl
      rwa [State.flushed_finish] at this
    obtain ⟨-, -, -, hempty, -⟩ := u.flushed_frame u.cfg.indContinues
    have hw2 : Goes 1 ((u.flushed u.cfg.indContinues).goTo op (.w2 d) back) ((u.appended d).finish op 0 back) := by
      rw [State.appended, if_pos h]
      have := put_goes (u := (u.flushed u.cfg.indContinues).goTo op (.w2 d) back) rfl (by simp [hempty])
      cases back <;> exact this
    exact (hw1.trans hflush rfl).trans hw2 rfl
  · have hw1 : Goes 1 u (u.goTo op (.w2 d) back) := .step hfg (congrArg Host.Outcome.next (if_neg h))
    have hw2 : Goes 1 (u.goTo op (.w2 d) back) ((u.appended d).finish op 0 back) := by
      rw [State.appended, if_neg h]
      have := put_goes (u := u.goTo op (.w2 d) back) rfl (by simp; omega)
      cases back <;> exact this
    exact (hw1.trans hw2 rfl).mono (by omega)

/-- A step that calls WRB, and the WRB. -/
theorem wrb_call_goes {u v : State} {op : Instr} {r : Half} {next : Label} {back back' : List Label} {d : Byte}
    (hfg : u.fg = .running op r next back) (ha : u.atomic op r next back = .next (v.goTo op (.w1 d) back'))
    (hn : next.composes = true := by rfl) : Goes 9 u ((v.appended d).finish op 0 back') := by
  have hcall : Goes 1 u (v.goTo op (.w1 d) back') := .step hfg ha hn
  have hwrb := wrb_goes (u := v.goTo op (.w1 d) back') rfl
  rw [State.appended_finish] at hwrb
  exact hcall.trans hwrb rfl

/-- A WRB called from inside an operation, and what the operation goes on with. -/
theorem wrb_call_composes {u v : State} {op : Instr} {r : Half} {next after : Label} {back rest : List Label} {d : Byte}
    (hfg : u.fg = .running op r next back) (ha : u.atomic op r next back = .next (v.goTo op (.w1 d) (after :: rest)))
    (hn : next.composes = true := by rfl) :
    ∃ x : State, Goes 9 u x ∧ x.fg = .running op 0 after rest ∧ x.draft = v.draft.append d ∧
      x.i = v.i ∧ x.inBuf = v.inBuf := by
  obtain ⟨-, -, -, -, hi, hbuf, -⟩ := v.appended_frame d
  exact ⟨_, wrb_call_goes hfg ha hn, rfl, v.draft_appended d, hi, hbuf⟩

/-! ## The data bytes of WRP and WRP16 (42 R136 U2, R138 V3) -/

/-- The WRB of a byte the caller has supplied. -/
theorem State.appendDatum_supplied {s : State} {d : Byte} (op : Instr) (len : Half) (back : List Label)
    (h : s.inBuf[s.i.toNat]? = some d) :
    s.appendDatum op len back = s.goTo op (.w1 d) (.dataLoop len :: back) := by
  simp only [State.appendDatum, State.dataByte, State.freeCountAfter, h]

/-- The WRB of one supplied byte, after which the loop goes on. -/
theorem datum_goes {op : Instr} {len : Half} {back : List Label} {d : Byte} {ds : List Byte} {u v : State} {r : Half}
    {next : Label} (hfg : u.fg = .running op r next back)
    (ha : u.atomic op r next back = .next (v.appendDatum op len back)) (hn : next.composes = true)
    (hin : v.inBuf.drop v.i.toNat = d :: ds) :
    ∃ x : State, Goes 9 u x ∧ x.fg = .running op 0 (.dataLoop len) back ∧
      x.draft = v.draft.append d ∧ x.i = v.i ∧ x.inBuf = v.inBuf := by
  have hd : v.inBuf[v.i.toNat]? = some d := by rw [← List.head?_drop, hin, List.head?_cons]
  exact wrb_call_composes hfg (State.appendDatum_supplied op len back hd ▸ ha) hn

/-- The loop from the WRB of one byte on: that byte and the rest of what the caller has supplied are appended. -/
theorem data_loop_goes {op : Instr} {len : Half} {back : List Label} {d : Byte} (ds : List Byte) {u v : State}
    {r : Half} {next : Label} (hfg : u.fg = .running op r next back)
    (ha : u.atomic op r next back = .next (v.appendDatum op len back)) (hn : next.composes = true)
    (hin : v.inBuf.drop v.i.toNat = d :: ds) (hlen : len.toNat = v.i.toNat + (ds.length + 1)) :
    ∃ w : State, Goes (9 * (ds.length + 1) + 1) u (w.finish op 0 back) ∧
      w.draft = v.draft.appendAll (d :: ds) := by
  induction ds generalizing u v d r next with
  | nil =>
    obtain ⟨x, hcall, hxfg, hx, hxi, -⟩ := datum_goes hfg ha hn hin
    have hlast : ¬ x.i.toNat + 1 < len.toNat := by rw [hlen, hxi, List.length_nil]; omega
    have hend : Goes 1 x (x.finish op 0 back) := .step hxfg (congrArg Host.Outcome.next (if_neg hlast))
    exact ⟨x, hcall.trans hend (x.idle_false _ _ _ _ hxfg), hx⟩
  | cons e ds ih =>
    obtain ⟨x, hcall, hxfg, hx, hxi, hxbuf⟩ := datum_goes hfg ha hn hin
    rw [List.length_cons] at hlen ⊢
    have hi : (x.i + 1).toNat = v.i.toNat + 1 := by
      have := len.isLt
      rw [hxi]
      bv_omega
    have hmore : x.i.toNat + 1 < len.toNat := by rw [hlen, hxi]; omega
    have hdrop : x.inBuf.drop (x.i + 1).toNat = e :: ds := by rw [hi, hxbuf, ← List.tail_drop, hin, List.tail_cons]
    obtain ⟨w, hrest, hw⟩ := ih (v := { x with i := x.i + 1 }) hxfg (congrArg Host.Outcome.next (if_pos hmore)) rfl
      hdrop (by simp only [hi]; omega)
    exact ⟨w, (hcall.trans hrest (x.idle_false _ _ _ _ hxfg)).mono (by omega), hw.trans (hx ▸ rfl)⟩

/-- The loop from its start, the caller having supplied just as many bytes as the operation takes. -/
theorem data_goes {u : State} {op : Instr} {r : Half} {len : Half} {back : List Label}
    (hfg : u.fg = .running op r (.dataStart len) back) (hlen : len.toNat = u.inBuf.length) :
    ∃ w : State, Goes (9 * len.toNat + 1) u (w.finish op 0 back) ∧
      w.draft = u.draft.appendAll u.inBuf := by
  cases hin : u.inBuf with
  | nil =>
    have hnone : ¬ 0 < len.toNat := by simp [hlen, hin]
    exact ⟨{ u with i := 0 }, .mono (.step hfg (congrArg Host.Outcome.next (if_neg hnone))) (by omega), rfl⟩
  | cons d ds =>
    rw [hin, List.length_cons] at hlen
    have hsome : 0 < len.toNat := by omega
    obtain ⟨w, hgoes, hw⟩ := data_loop_goes ds (v := { u with i := 0 }) hfg
      (congrArg Host.Outcome.next (if_pos hsome)) rfl hin (hlen.trans (Nat.zero_add _).symm)
    exact ⟨w, hlen ▸ hgoes, hw⟩

/-- The data bytes, and `done(0)` of WRP or WRP16. -/
theorem data_done_goes {u : State} {op : Instr} {r : Half} {len : Half}
    (hfg : u.fg = .running op r (.dataStart len) [.dataDone]) (hlen : len.toNat = u.inBuf.length) :
    ∃ w : State, Goes (9 * len.toNat + 2) u (w.finish op 0 []) ∧
      w.draft = u.draft.appendAll u.inBuf := by
  obtain ⟨w, hgoes, hw⟩ := data_goes hfg hlen
  exact ⟨w, hgoes.trans (.step rfl rfl) rfl, hw⟩

end Sys2Proof.Machine
end

section
/-! The operations that compose a reply, and runs of them, under a schedule without a reset or a pause (spec 42 R131,
R136, R138, R140, R142, R144). -/

namespace Sys2Proof.Machine

open Sys2Proof

/-! ## Runs of operations -/

/-- The sequencer is idle and the schedule calm. -/
structure State.Ready (s : State) : Prop where
  idle : s.fg = .idle
  calm : s.Calm

/-- From every ready state the operations answer a ready state, and do `f` to the reply in composition. -/
def RunsAs (calls : List Call) (f : Draft → Draft) : Prop :=
  ∀ s : State, s.Ready → ∃ t, runCalls calls s = some t ∧ t.Ready ∧ t.draft = f s.draft

theorem runCalls_append (as bs : List Call) {s t : State} (h : runCalls as s = some t) :
    runCalls (as ++ bs) s = runCalls bs t := by
  induction as generalizing s with
  | nil => cases h; rfl
  | cons a as ih =>
    obtain ⟨i, data⟩ := a
    rw [List.cons_append]
    simp only [runCalls] at h ⊢
    split at h
    · exact ih h
    · cases h
    · cases h

theorem RunsAs.nil : RunsAs [] id := fun s hs => ⟨s, rfl, hs, rfl⟩

theorem RunsAs.append {as bs : List Call} {f g : Draft → Draft} (ha : RunsAs as f) (hb : RunsAs bs g) :
    RunsAs (as ++ bs) (g ∘ f) := by
  intro s hs
  obtain ⟨t, hrun, ht, hf⟩ := ha s hs
  obtain ⟨u, hrun', hu, hg⟩ := hb t ht
  exact ⟨u, (runCalls_append as bs hrun).trans hrun', hu, by rw [hg, hf, Function.comp_apply]⟩

/-- Operations each of which appends some bytes append them all. -/
theorem RunsAs.map {α : Type} (call : α → Call) (bytes : α → List Byte) (as : List α)
    (h : ∀ a ∈ as, RunsAs [call a] (·.appendAll (bytes a))) :
    RunsAs (as.map call) (·.appendAll (as.flatMap bytes)) := by
  induction as with
  | nil => exact .nil
  | cons a as ih =>
    obtain ⟨ha, has⟩ := List.forall_mem_cons.1 h
    have hrun := ha.append (ih has)
    intro s hs
    obtain ⟨t, hcalls, ht, hk⟩ := hrun s hs
    refine ⟨t, hcalls, ht, hk.trans ?_⟩
    simp only [List.flatMap_cons, Draft.appendAll_append, Function.comp_apply]

/-- One operation, by where its run goes. -/
theorem RunsAs.perform {i : Instr} {data : List Byte} {first : Label} {back : List Label}
    {f : Draft → Draft} (hexec : ∀ s, exec i s = s.perform i first back)
    (h : ∀ s : State, s.inBuf = data → ∃ c ≤ 1048576, ∃ v : State,
      Goes c (s.goTo i first back) (v.finish i 0 []) ∧ v.draft = f s.draft) :
    RunsAs [(i, data)] f := by
  intro s hs
  obtain ⟨c, hc, v, hgoes, hv⟩ := h { s with inBuf := data } rfl
  obtain ⟨t, hperform, hcalm, hown⟩ := State.perform_within (s := { s with inBuf := data }) hs.idle
    (hgoes _ (hs.calm.congr rfl rfl) rfl) (fun _ ht => State.own_fg_eq ht) hc
  refine ⟨t, runCalls_cons data ((hexec _).trans hperform), ⟨State.own_fg_eq hown, hcalm⟩, ?_⟩
  rw [State.draft_congr hown, State.draft_finish, hv]
  rfl

/-! ## The operations (42 R131, R132, R136, R138, R140) -/

theorem runsAs_wrb (d : Byte) : RunsAs [(.wrb d, [])] (·.append d) := by
  refine .perform (fun _ => rfl) fun s _ => ⟨8, by decide, s.appended d, ?_, s.draft_appended d⟩
  have := wrb_goes (u := s.goTo (.wrb d) (.w1 d) []) rfl
  rwa [State.appended_finish] at this

theorem runsAs_wrbs (ds : List Byte) : RunsAs (ds.map fun b => (.wrb b, [])) (·.appendAll ds) := by
  have := RunsAs.map (fun b => (Instr.wrb b, [])) (fun b => [b]) ds fun d _ => runsAs_wrb d
  rwa [List.flatMap_singleton'] at this

/-- RSTART discards what was buffered. -/
theorem runsAs_rstart (cmd n : Byte) : RunsAs [(.rstart cmd n, [])] fun k =>
    { k with buffered := [] }.appendAll [k.cfg.startCmd, cmd ||| 0x80, n] := by
  refine .perform (fun _ => rfl) fun s _ => ?_
  have hs1 : Goes 1 (s.goTo (.rstart cmd n) .s1 [.s4 cmd, .s5 n]) _ := .step rfl rfl
  have hs2 := hs1.trans (.step rfl rfl) rfl
  have hs3 := hs2.trans (wrb_call_goes rfl rfl) rfl
  have hs4 := hs3.trans (wrb_call_goes rfl rfl) rfl
  have hs5 := hs4.trans (wrb_call_goes rfl rfl) rfl
  refine ⟨_, by decide, _, hs5, ?_⟩
  simp only [State.draft_appended, State.draft_finish]
  rfl

theorem runsAs_rend : RunsAs [(.rend, [])] fun k => (k.append k.cfg.endCmd).flush k.cfg.indFinished := by
  refine .perform (fun _ => rfl) fun s _ => ?_
  obtain ⟨-, -, -, hcfg, -⟩ := s.appended_frame s.cfg.endCmd
  have he1 : Goes 9 (s.goTo .rend .e1 []) ((s.appended s.cfg.endCmd).finish .rend 0 [.e2]) :=
    wrb_call_goes rfl rfl
  have he2 : Goes 1 ((s.appended s.cfg.endCmd).finish .rend 0 [.e2])
      ((s.appended s.cfg.endCmd).goTo .rend (.f1 s.cfg.indFinished) []) :=
    .step rfl (by rw [State.atomic, stepE2, State.finish_cfg, hcfg]; rfl)
  have hflush := flush_goes (u := (s.appended s.cfg.endCmd).goTo .rend (.f1 s.cfg.indFinished) []) rfl
  rw [State.flushed_finish] at hflush
  refine ⟨_, by decide, _, (he1.trans he2 rfl).trans hflush rfl, ?_⟩
  rw [State.draft_flushed, State.draft_appended]
  rfl

theorem runsAs_wrp {data : List Byte} (h : data.length ≤ 255) :
    RunsAs [(.wrp (BitVec.ofNat 8 data.length), data)] (·.appendAll (BitVec.ofNat 8 data.length :: data)) := by
  generalize hlen : BitVec.ofNat 8 data.length = len
  have hcount : (lenOfByte len).toNat = data.length := by
    rw [← hlen, lenOfByte, BitVec.toNat_setWidth, BitVec.toNat_ofNat]
    omega
  refine .perform (fun _ => rfl) fun s hin => ?_
  obtain ⟨x, hu1, hxfg, hxk, -, hxin⟩ :=
    wrb_call_composes (v := s) (u := s.goTo (.wrp len) (.u1 len) [.dataStart (lenOfByte len), .dataDone]) rfl rfl
  obtain ⟨w, hdata, hw⟩ := data_done_goes hxfg (by rw [hxin, hin, hcount])
  refine ⟨_, by omega, w, hu1.trans hdata (x.idle_false _ _ _ _ hxfg), ?_⟩
  rw [hw, hxin, hin, hxk]
  rfl

theorem lenHigh_ofNat (n : Nat) : lenHigh (BitVec.ofNat 16 n) = BitVec.ofNat 8 (n / 256) := by
  apply BitVec.eq_of_toNat_eq
  simp only [lenHigh, BitVec.extractLsb'_toNat, BitVec.toNat_ofNat, Nat.shiftRight_eq_div_pow]
  omega

theorem lenLow_ofNat (n : Nat) : lenLow (BitVec.ofNat 16 n) = BitVec.ofNat 8 n := by
  apply BitVec.eq_of_toNat_eq
  simp only [lenLow, BitVec.extractLsb'_toNat, BitVec.toNat_ofNat, Nat.shiftRight_zero]
  omega

theorem runsAs_wrp16 {data : List Byte} (h : data.length ≤ 65535) :
    RunsAs [(.wrp16 (BitVec.ofNat 16 data.length), data)]
      (·.appendAll (BitVec.ofNat 8 (data.length / 256) :: BitVec.ofNat 8 data.length :: data)) := by
  rw [← lenHigh_ofNat, ← lenLow_ofNat]
  generalize hlen : BitVec.ofNat 16 data.length = len
  have hcount : len.toNat = data.length := by
    rw [← hlen, BitVec.toNat_ofNat]
    omega
  refine .perform (fun _ => rfl) fun s hin => ?_
  obtain ⟨x, hv1, hxfg, hxk, -, hxin⟩ :=
    wrb_call_composes (v := s) (u := s.goTo (.wrp16 len) (.v1 len) [.dataStart len, .dataDone]) rfl rfl
  obtain ⟨y, hv2, hyfg, hyk, -, hyin⟩ := wrb_call_composes hxfg rfl
  obtain ⟨w, hdata, hw⟩ := data_done_goes hyfg (by rw [hyin, hxin, hin, hcount])
  refine ⟨_, by omega, w, (hv1.trans hv2 (x.idle_false _ _ _ _ hxfg)).trans hdata (y.idle_false _ _ _ _ hyfg), ?_⟩
  rw [hw, hyin, hxin, hin, hyk, hxk]
  rfl

theorem runsAs_param {p : Param} (h : p.fits = true) : RunsAs [p.call] (·.appendAll p.bytes) := by
  obtain ⟨wide, data⟩ := p
  cases wide with
  | false => exact runsAs_wrp (of_decide_eq_true h)
  | true => exact runsAs_wrp16 (of_decide_eq_true h)

/-! ## Where the hand-offs of a reply fall (42 R142, R144) -/

/-- Settles O43: three header bytes and 28 more are the 31 that fit, and the byte after them flushes. -/
theorem twentyNinthByteAfterRstartFlushes : Obligations.TwentyNinthByteAfterRstartFlushes := by
  intro s cmd n d ds hidle hr hp hlen
  obtain ⟨t, hrun, ht, hk⟩ := ((runsAs_rstart cmd n).append (runsAs_wrbs ds)) s ⟨hidle, hr, hp⟩
  obtain ⟨u, hrun', -, hk'⟩ := runsAs_wrb d t ht
  have hfull : t.draft = ⟨s.cfg, s.cfg.startCmd :: (cmd ||| 0x80) :: n :: ds, s.txLog, s.txout⟩ := by
    rw [hk, Function.comp_apply, ← Draft.appendAll_append, Draft.appendAll_of_room _ (by simp [hlen])]
    rfl
  have hflushed : u.draft = ⟨s.cfg, [d],
      s.txLog ++ [s.cfg.indContinues :: s.cfg.startCmd :: (cmd ||| 0x80) :: n :: ds],
      s.cfg.indContinues :: s.cfg.startCmd :: (cmd ||| 0x80) :: n :: ds⟩ := by
    rw [hk', hfull]
    exact Draft.append_of_full d (by simp [hlen])
  simp only [State.draft, Draft.mk.injEq] at hfull hflushed
  obtain ⟨-, hbuf, hlog, hout⟩ := hfull
  obtain ⟨-, hbuf', hlog', hout'⟩ := hflushed
  have hpos : t.txpos.toNat = 31 := by rw [← t.length_buffered, hbuf]; simp [hlen]
  have hpos' : u.txpos.toNat = 1 := by rw [← u.length_buffered, hbuf']; rfl
  refine ⟨t, u, hrun, BitVec.eq_of_toNat_eq hpos, hlog, hout, hrun', BitVec.eq_of_toNat_eq hpos', ?_, hlog', ?_⟩
  · rw [State.buffered, hpos', payload_eq_cons] at hbuf'
    exact List.head_eq_of_cons_eq hbuf'
  · rw [hout']
    simp [hlen]

/-- A whole reply: its message is appended to the empty buffer and the rest is flushed. -/
theorem runsAs_reply (cmd n : Byte) {ps : List Param} (h : ∀ p ∈ ps, p.fits = true) :
    RunsAs (replyCalls cmd n ps) fun k =>
      ({ k with buffered := [] }.appendAll (replyBytes k.cfg cmd n ps)).flush k.cfg.indFinished := by
  have hrun := ((runsAs_rstart cmd n).append
    (.map Param.call Param.bytes ps fun p hp => runsAs_param (h p hp))).append runsAs_rend
  intro s hs
  obtain ⟨t, hcalls, ht, hk⟩ := hrun s hs
  refine ⟨t, hcalls, ht, hk.trans ?_⟩
  simp only [Function.comp_apply, ← Draft.appendAll_append, Draft.appendAll_cfg]
  have hbytes : replyBytes s.draft.cfg cmd n ps =
      [s.draft.cfg.startCmd, cmd ||| 0x80, n] ++ ps.flatMap Param.bytes ++ [s.draft.cfg.endCmd] := rfl
  rw [hbytes, Draft.appendAll_append _ _ [s.draft.cfg.endCmd]]
  rfl

/-- Settles O44: the operations append the bytes of the message one by one, each flush hands off one chunk of its
stream, and REND the last. -/
theorem replyIsHandedOffAsItsChunkStream : Obligations.ReplyIsHandedOffAsItsChunkStream := by
  intro s cmd n ps hidle hr hp hfits
  obtain ⟨t, hrun, ht, hk⟩ := runsAs_reply cmd n hfits s ⟨hidle, hr, hp⟩
  have hlog := (congrArg Draft.log hk).trans (Draft.log_of_message (replyBytes s.cfg cmd n ps)
    (k := { s.draft with buffered := [] }) (Nat.zero_le 31) (by simp [replyBytes]))
  refine ⟨t, hrun, ht.idle, t.buffered_eq_nil_iff.1 ?_, hlog⟩
  exact (congrArg Draft.buffered hk).trans (Draft.flush_buffered _ _)

end Sys2Proof.Machine
end

section
/-! A reset in the turn of an operation in progress (spec 70 R200). -/

namespace Sys2Proof.Machine

open Sys2Proof

/-- A turn in which only a reset happens is the reset, with the turn used up. -/
theorem State.environment_rst {s : State} {p : Bool} {rest : List Turn} (hh : s.held = [])
    (he : s.env = ⟨[.rst], p⟩ :: rest) : s.environment = ({ s with env := rest } : State).applyMove .rst := by
  simp [State.environment, State.turnMoves, hh, he]

/-- A transition whose turn leaves the sequencer idle is that turn: a pause or not, no atomic step follows. -/
theorem State.advance_of_idle_turn {s : State} (h : s.environment.fg = .idle) : s.advance = .next s.environment := by
  cases hp : s.pauseDue with
  | true => exact s.advance_paused hp
  | false => rw [s.advance_unpaused hp, State.foreground_idle _ h]

/-- With an operation in progress, a step whose first transition leaves the sequencer idle answers that transition's
state. -/
theorem step_of_first_advance {s t : State} {op : Instr} {r : Half} {next : Label} {back : List Label}
    (hs : s.fg = .running op r next back) (ha : s.advance = .next t) (ht : t.fg = .idle) : step s = .next t := by
  have hrun : step s = s.runOn s.budget := by simp only [step, State.stepOnce, hs]
  have hbudget : 0 < s.budget := Nat.add_pos_left (by decide) _
  rw [hrun, State.runOn_completes (.refl s) ha ht hbudget]

/-- Settles O9: the registers take their values by the definition of the reset, and the turn that holds the reset is
the whole step, because it leaves the sequencer idle. -/
theorem resetEndsTheOperationInProgress : Obligations.ResetEndsTheOperationInProgress := by
  refine ⟨fun s => ⟨rfl, rfl, rfl, rfl, rfl, rfl, State.ofConfig_indicator s.cfg, rfl, rfl, rfl, rfl, rfl, rfl⟩, ?_⟩
  intro s op r next back p rest hs hh he
  have hturn := State.environment_rst hh he
  have hidle : s.environment.fg = .idle := by rw [hturn]; rfl
  rw [← hturn]
  exact step_of_first_advance hs (State.advance_of_idle_turn hidle) hidle

end Sys2Proof.Machine
end

section
/-! A turn with or without a reset, and how far an operation in progress is from its end (spec 10 R23; 60 R164; 70 R200). -/

namespace Sys2Proof.Machine

open Sys2Proof

/-! ## A turn of any kind -/

theorem State.applyMove_fg_idle {s : State} (m : Move) (h : s.fg = .idle) : (s.applyMove m).fg = .idle := by
  cases m with
  | rx _ _ | tx => cases hq : s.irqOff <;> simpa [State.applyMove, hq] using h
  | tick _ => exact h
  | rst => rfl

theorem State.applyMoves_fg_idle (ms : List Move) {s : State} (h : s.fg = .idle) :
    (ms.foldl State.applyMove s).fg = .idle := by
  induction ms generalizing s with
  | nil => exact h
  | cons m ms ih => exact ih (s.applyMove_fg_idle m h)

theorem State.environment_fg_idle {s : State} (h : s.fg = .idle) : s.environment.fg = .idle :=
  State.applyMoves_fg_idle _ (s := { s with held := [], env := s.env.tail }) h

theorem State.applyMoves_reset (ms : List Move) (s : State) (h : ms.all Move.notReset = false) :
    (ms.foldl State.applyMove s).fg = .idle := by
  induction ms generalizing s with
  | nil => contradiction
  | cons m ms ih =>
    cases m with
    | rst => exact State.applyMoves_fg_idle ms (s := s.applyReset) rfl
    | rx _ _ | tx | tick _ => exact ih _ h

/-- A turn has no reset in it, or it leaves the sequencer idle. -/
theorem State.environment_cases (s : State) : s.noResetInTurn = true ∨ s.environment.fg = .idle := by
  cases h : s.noResetInTurn with
  | true => exact .inl rfl
  | false => exact .inr (State.applyMoves_reset _ _ h)

/-! ## The labels on the sequencer -/

/-- The step that stands and those to return to; none when the sequencer is idle. -/
def State.stack (s : State) : List Label :=
  match s.fg with
  | .idle => []
  | .running _ _ next back => next :: back

theorem State.stack_of_idle {s : State} (h : s.fg = .idle) : s.stack = [] := by
  rw [State.stack, h]

theorem State.stack_of_running {s : State} {op : Instr} {r : Half} {next : Label} {back : List Label}
    (h : s.fg = .running op r next back) : s.stack = next :: back := by
  rw [State.stack, h]

@[simp] theorem State.stack_goTo (s : State) (op : Instr) (next : Label) (back : List Label) :
    (s.goTo op next back).stack = next :: back := rfl

/-- `done(v)` leaves the labels to return to. -/
@[simp] theorem State.stack_finish (s : State) (op : Instr) (v : Half) (back : List Label) :
    (s.finish op v back).stack = back := by
  cases back <;> rfl

/-! ## What an atomic step writes -/

/-- A branch both sides of which show the same. -/
theorem proj_ite {α : Type} {f : State → α} {p : Prop} [Decidable p] {t u : State} {x : α} (ht : f t = x)
    (hu : f u = x) : f (if p then t else u) = x := by
  by_cases hp : p
  · rwa [if_pos hp]
  · rwa [if_neg hp]

/-- What the step at a label writes besides FG_OP, FG_STEP, the result and the cause. -/
def State.writes (s : State) (r : Half) : Label → State
  | .setrxS1 c => { s with rxstate := c }
  | .settxS1 c => { s with txstate := c }
  | .imaskS1 m => { s with irqOff := m == 1 }
  | .a2 | .b8 => s.copyChunk
  | .a3 => if s.chunkTagged then s else { s with rxpos := 32, readFailed := true }
  | .a4 | .b8r => s.acceptChunk
  | .b3 | .d1 => { s with dataReceived := false }
  | .b4 => s.invalidate
  | .b5 | .d3 => { s with rxstate := s.cfg.rxReady }
  | .b6 | .f2 => { s with t0 := s.now }
  | .b7 =>
    if s.dataReceived then s
    else if expired s.cfg.rxTimeoutMs s.now s.t0 then { s with readFailed := true }
    else s.stay s.cfg.rxTimeoutMs
  | .b8v => if s.chunkTagged then s else { s with readFailed := true }
  | .b9 => { s with rxpos := s.rxpos + 1 }
  | .d2 => { s.invalidate with rxpos := 32, readFailed := false }
  | .p1r cap => { s with l := byteResult (resultByte r), i := 0, cap := cap }
  | .p2r => { s.storeClamped (resultByte r) with i := s.i + 1 }
  | .q3r => s.storeOut 0 (resultByte r)
  | .q4r => s.storeOut 1 (resultByte r)
  | .t2 => s.storeOut (storedCount s.l s.cap).toNat 0
  | .s1 => { s with txstate := s.cfg.txPreparing }
  | .s2 | .f5 => { s with txpos := 0 }
  | .w2 d => s.put d
  | .f1 ind => { s with ind := ind }
  | .f3 =>
    if s.dataSent then s
    else if expired s.cfg.txTimeoutMs s.now s.t0 then { s with ackTimeouts := s.ackTimeouts + 1 }
    else s.stay s.cfg.txTimeoutMs
  | .f4 => s.handOff
  | .dataStart len =>
    if 0 < len.toNat then { s with i := 0, freeCount := ({ s with i := 0 } : State).freeCountAfter } else { s with i := 0 }
  | .dataLoop len =>
    if s.i.toNat + 1 < len.toNat then
      { s with i := s.i + 1, freeCount := ({ s with i := s.i + 1 } : State).freeCountAfter }
    else s
  | _ => s

/-- The second state is the first but for the sequencer and what it reports. -/
def State.SequencedAs (t u : State) : Prop := ∃ f v c, t = { u with fg := f, res := v, cause := c }

theorem State.SequencedAs.finish (s : State) (op : Instr) (v : Half) (back : List Label) :
    (s.finish op v back).SequencedAs s := by
  cases back <;> exact ⟨_, _, _, rfl⟩

theorem State.SequencedAs.ite {p : Prop} [Decidable p] {t t' u u' : State} (ht : t.SequencedAs u)
    (ht' : t'.SequencedAs u') : (if p then t else t').SequencedAs (if p then u else u') := by
  by_cases hp : p
  · rwa [if_pos hp, if_pos hp]
  · rwa [if_neg hp, if_neg hp]

/-- A condition that decides only where the sequencer goes on. -/
theorem State.SequencedAs.either {p : Prop} [Decidable p] {t t' u : State} (ht : t.SequencedAs u)
    (ht' : t'.SequencedAs u) : (if p then t else t').SequencedAs u := by
  by_cases hp : p
  · rwa [if_pos hp]
  · rwa [if_neg hp]

theorem State.atomic_writes {s t : State} {op : Instr} {r : Half} {next : Label} {back : List Label}
    (h : s.atomic op r next back = .next t) : t.SequencedAs (s.writes r next) := by
  cases next with
  | b9 =>
    obtain ⟨v, -, e⟩ | ⟨-, e⟩ := stepB9_cases op back s <;> cases e.symm.trans h
    exact .finish ..
  | w2 d =>
    obtain ⟨-, e⟩ | ⟨-, e⟩ := stepW2_cases op d back s <;> cases e.symm.trans h
    exact .finish ..
  -- The step ends the operation or the primitive.
  | setrxS1 _ | settxS1 _ | imaskS1 _ | a4 | d3 | p3 | q4r | t3 | f5 | dataDone => cases h; exact .finish ..
  -- The step tests a condition.
  | a1 | b1 | b2 | q2 | w1 _ => cases h; exact .either ⟨_, _, _, rfl⟩ ⟨_, _, _, rfl⟩
  | p2 => cases h; exact .either ⟨_, _, _, rfl⟩ (.finish ..)
  | f1 _ => cases h; exact .either (.finish ..) ⟨_, _, _, rfl⟩
  | a3 | b8v => cases h; exact .ite ⟨_, _, _, rfl⟩ ⟨_, _, _, rfl⟩
  | dataStart _ | dataLoop _ => cases h; exact .ite ⟨_, _, _, rfl⟩ (.finish ..)
  | b7 | f3 => cases h; exact .ite ⟨_, _, _, rfl⟩ (.ite ⟨_, _, _, rfl⟩ ⟨_, _, _, rfl⟩)
  -- The step only goes on.
  | _ => cases h; exact ⟨_, _, _, rfl⟩

/-- The part of the state that only the environment and the caller write: the parameters, RXREF and XBUF, IN, the
requests, the schedule and what is held back. -/
structure Outside where
  cfg : Config
  rxref : Nat
  xbuf : Chunk
  inBuf : List Byte
  reqs : List Request
  env : List Turn
  held : List Move

def State.outside (s : State) : Outside := ⟨s.cfg, s.rxref, s.xbuf, s.inBuf, s.reqs, s.env, s.held⟩

theorem State.atomic_outside {s t : State} {op : Instr} {r : Half} {next : Label} {back : List Label}
    (h : s.atomic op r next back = .next t) : t.outside = s.outside := by
  obtain ⟨_, _, _, rfl⟩ := State.atomic_writes h
  show (s.writes r next).outside = s.outside
  cases next with
  | a3 | b8v | dataStart _ | dataLoop _ => exact proj_ite rfl rfl
  | b7 | f3 => exact proj_ite rfl (proj_ite rfl (proj_ite rfl rfl))
  | p2r => exact (proj_ite rfl rfl : (s.storeClamped (resultByte r)).outside = _)
  | _ => rfl

/-! ## The work left -/

/-- The steps of the loops over data bytes, and the steps that lead into them. They count in I, so at most one may be
on the sequencer. -/
def Label.loops : Label → Bool
  | .p1 _ | .p1r _ | .p2 | .p2r | .dataStart _ | .dataLoop _ => true
  | _ => false

/-- At most so many transitions come from a step until its primitive returns, a poll that stays counted once, what
the labels to return to do not counted: with L and I where the step stands. -/
def Label.cost (l i : Half) : Label → Nat
  | .setrxS1 _ | .settxS1 _ | .imaskS1 _ => 1
  | .a1 => 4 | .a2 => 3 | .a3 => 2 | .a4 => 1
  | .b1 => 12 | .b2 => 11 | .b3 => 10 | .b4 => 9 | .b5 => 8 | .b6 => 7 | .b7 => 6
  | .b8 => 4 | .b8v => 3 | .b8r => 2 | .b9 => 1
  | .d1 => 3 | .d2 => 2 | .d3 => 1
  | .p1 _ => 3585 | .p1r _ => 3572
  | .p2 => 1 + 14 * (l.toNat - i.toNat)
  | .p2r => 2 + 14 * (l.toNat - (i + 1).toNat)
  | .p3 => 1
  | .q1 => 43 | .q2 => 30 | .q3 => 29 | .q3r => 16 | .q4 => 15 | .q4r => 1
  | .t2 => 2 | .t3 => 1
  | .s1 => 11 | .s2 => 10 | .s3 => 9 | .s4 _ => 9 | .s5 _ => 9
  | .w1 _ => 8 | .w2 _ => 1
  | .f1 _ => 6 | .f2 => 5 | .f3 => 4 | .f4 => 2 | .f5 => 1
  | .u1 _ => 9 | .v1 _ => 18 | .v2 _ => 9
  | .dataStart len => 1 + 9 * len.toNat
  | .dataLoop len => 1 + 9 * (len.toNat - (i.toNat + 1))
  | .dataDone => 1
  | .e1 => 16 | .e2 => 7

theorem Label.cost_of_not_loops {n : Label} (h : n.loops = false) (l i l' i' : Half) :
    n.cost l i = n.cost l' i' := by
  cases n with
  | p1 _ | p1r _ | p2 | p2r | dataStart _ | dataLoop _ => contradiction
  | _ => rfl

theorem no_loop_below {next : Label} {back : List Label} (hnext : next.loops = true)
    (h : (next :: back).countP Label.loops ≤ 1) : back.countP Label.loops = 0 := by
  rw [List.countP_cons_of_pos hnext] at h
  omega

/-- The cost of all the labels on the sequencer. -/
def stackCost (l i : Half) (stack : List Label) : Nat := (stack.map (Label.cost l i)).sum

theorem stackCost_cons (l i : Half) (n : Label) (stack : List Label) :
    stackCost l i (n :: stack) = n.cost l i + stackCost l i stack := by
  simp [stackCost]

/-- Where no loop is among the labels, neither L nor I matters. -/
theorem stackCost_of_no_loop {stack : List Label} (h : stack.countP Label.loops = 0) (l i l' i' : Half) :
    stackCost l i stack = stackCost l' i' stack := by
  rw [List.countP_eq_zero] at h
  exact congrArg List.sum (List.map_congr_left fun n hn =>
    Label.cost_of_not_loops (Bool.not_eq_true _ ▸ h n hn) l i l' i')

/-- The work left in a state. -/
def State.work (s : State) : Nat := stackCost s.l s.i s.stack

/-- The operation has ended, or at most one loop is on the sequencer and less than so much work is left. -/
def State.NearerEnd (n : Nat) (t : State) : Prop :=
  t.fg = .idle ∨ (t.stack.countP Label.loops ≤ 1 ∧ t.work < n)

/-- The step is a poll of a wait. -/
def Label.polls : Label → Bool
  | .b7 | .f3 => true
  | _ => false

section Nearer

variable {n : Nat} {s t : State} {op : Instr} {back : List Label}

theorem State.NearerEnd.goTo {next : Label} (hloops : (next :: back).countP Label.loops ≤ 1)
    (hcost : next.cost s.l s.i + stackCost s.l s.i back < n) : (s.goTo op next back).NearerEnd n :=
  .inr ⟨hloops, (stackCost_cons ..).trans_lt hcost⟩

theorem State.NearerEnd.finish {v : Half} (hloops : back.countP Label.loops ≤ 1)
    (hcost : stackCost s.l s.i back < n) : (s.finish op v back).NearerEnd n := by
  refine .inr ⟨(s.stack_finish op v back).symm ▸ hloops, ?_⟩
  rwa [State.work, State.stack_finish, State.finish_l, State.finish_i]

theorem State.NearerEnd.ite {p : Prop} [Decidable p] {u : State} (ht : p → t.NearerEnd n)
    (hu : ¬ p → u.NearerEnd n) : (if p then t else u).NearerEnd n := by
  by_cases hp : p
  · rw [if_pos hp]
    exact ht hp
  · rw [if_neg hp]
    exact hu hp

end Nearer

/-- The bound of the wait in which the step polls (60 R172). -/
def Label.bound (c : Config) : Label → Millis
  | .b7 => c.rxTimeoutMs
  | .f3 => c.txTimeoutMs
  | _ => 0

theorem byteResult_le (b : Byte) : (byteResult b).toNat ≤ 255 := by
  have := b.isLt
  rw [byteResult, BitVec.toNat_setWidth]
  omega

/-- Outside the two waits every step brings the operation nearer to its end. -/
theorem State.atomic_nearer {s t : State} {op : Instr} {r : Half} {next : Label} {back : List Label}
    (hloops : (next :: back).countP Label.loops ≤ 1) (hpolls : next.polls = false)
    (h : s.atomic op r next back = .next t) :
    t.NearerEnd (next.cost s.l s.i + stackCost s.l s.i back) := by
  have hback : back.countP Label.loops ≤ 1 := by rw [List.countP_cons] at hloops; omega
  cases next with
  | b7 | f3 => contradiction
  | b9 =>
    obtain ⟨v, -, e⟩ | ⟨-, e⟩ := stepB9_cases op back s <;> cases e.symm.trans h
    exact .finish hback (Nat.lt_add_of_pos_left Nat.one_pos)
  | w2 d =>
    obtain ⟨-, e⟩ | ⟨-, e⟩ := stepW2_cases op d back s <;> cases e.symm.trans h
    exact .finish hback (Nat.lt_add_of_pos_left Nat.one_pos)
  -- The step ends the operation or the primitive.
  | setrxS1 _ | settxS1 _ | imaskS1 _ | a4 | d3 | p3 | q4r | t3 | f5 | dataDone =>
    cases h
    exact .finish hback (Nat.lt_add_of_pos_left Nat.one_pos)
  -- The step goes on to another.
  | a2 | b3 | b4 | b5 | b6 | b8 | b8r | d1 | d2 | q3r | t2 | s1 | s2 | s3 | s4 _ | s5 _ | f2 | f4 | u1 _ | v2 _
  | e2 =>
    cases h
    exact .goTo hback (Nat.add_lt_add_right (Nat.le_of_ble_eq_true rfl) _)
  -- The step calls a primitive.
  | q1 | q3 | q4 | v1 _ | e1 =>
    cases h
    exact .goTo hback (by rw [stackCost_cons]; simp only [Label.cost]; omega)
  -- The step tests a condition.
  | a1 | a3 | b2 | b8v | q2 =>
    cases h
    exact .ite (fun _ => .goTo hback (Nat.add_lt_add_right (Nat.le_of_ble_eq_true rfl) _)) (fun _ => .inl rfl)
  | b1 =>
    cases h
    exact .ite (fun _ => .goTo hback (Nat.add_lt_add_right (Nat.le_of_ble_eq_true rfl) _))
      (fun _ => .goTo hback (Nat.add_lt_add_right (Nat.le_of_ble_eq_true rfl) _))
  | f1 _ =>
    cases h
    exact .ite (fun _ => .finish hback (Nat.lt_add_of_pos_left (Nat.le_of_ble_eq_true rfl)))
      (fun _ => .goTo hback (Nat.add_lt_add_right (Nat.le_of_ble_eq_true rfl) _))
  | w1 _ =>
    cases h
    exact .ite (fun _ => .goTo hback (by rw [stackCost_cons]; simp only [Label.cost]; omega))
      (fun _ => .goTo hback (Nat.add_lt_add_right (Nat.le_of_ble_eq_true rfl) _))
  -- The loops.
  | p1 _ =>
    cases h
    exact .goTo hloops (by rw [stackCost_cons]; simp only [Label.cost]; omega)
  | p1r _ =>
    cases h
    have hnone : back.countP Label.loops = 0 := no_loop_below rfl hloops
    have hl := byteResult_le (resultByte r)
    refine .goTo hloops ?_
    rw [stackCost_of_no_loop hnone _ _ s.l s.i]
    simp only [Label.cost]
    omega
  | p2 =>
    cases h
    refine .ite (fun hmore => ?_) (fun _ => .finish hback (Nat.lt_add_of_pos_left (by simp only [Label.cost]; omega)))
    refine .goTo hloops ?_
    have hnext : (s.i + 1).toNat = s.i.toNat + 1 := by bv_omega
    rw [stackCost_cons]
    simp only [Label.cost, hnext]
    omega
  | p2r =>
    cases h
    have hnone : back.countP Label.loops = 0 := no_loop_below rfl hloops
    refine .goTo hloops ?_
    rw [stackCost_of_no_loop hnone _ _ s.l s.i, s.storeClamped_frame]
    simp only [Label.cost]
    omega
  | dataStart len =>
    cases h
    have hnone : back.countP Label.loops = 0 := no_loop_below rfl hloops
    refine .ite (fun hsome => ?_) (fun _ => .finish hback ?_)
    · refine .goTo hloops ?_
      rw [stackCost_cons, stackCost_of_no_loop hnone _ _ s.l s.i]
      simp only [Label.cost]
      omega
    · rw [stackCost_of_no_loop hnone _ _ s.l s.i]
      exact Nat.lt_add_of_pos_left (by simp only [Label.cost]; omega)
  | dataLoop len =>
    cases h
    have hnone : back.countP Label.loops = 0 := no_loop_below rfl hloops
    refine .ite (fun hmore => ?_) (fun _ => .finish hback (Nat.lt_add_of_pos_left (by simp only [Label.cost]; omega)))
    refine .goTo hloops ?_
    have hlen := len.isLt
    have hnext : (s.i + 1).toNat = s.i.toNat + 1 := by bv_omega
    rw [stackCost_cons, stackCost_of_no_loop hnone _ _ s.l s.i]
    simp only [Label.cost, hnext]
    omega

/-- A poll stays, neither the flag nor the deadline found, or it brings the operation nearer to its end by two. -/
theorem State.atomic_polls {s t : State} {op : Instr} {r : Half} {next : Label} {back : List Label}
    (hloops : (next :: back).countP Label.loops ≤ 1) (hpolls : next.polls = true)
    (h : s.atomic op r next back = .next t) :
    t.NearerEnd (next.cost s.l s.i + stackCost s.l s.i back - 1) ∨
    (expired (next.bound s.cfg) s.now s.t0 = false ∧ t = (s.stay (next.bound s.cfg)).goTo op next back) := by
  cases next with
  | b7 =>
    have hback : back.countP Label.loops ≤ 1 := hloops
    cases h
    simp only [stepB7]
    split
    · exact .inl (.goTo hback (by simp only [Label.cost]; omega))
    · split
      · exact .inl (.inl rfl)
      · next hx => exact .inr ⟨Bool.not_eq_true _ ▸ hx, rfl⟩
  | f3 =>
    have hback : back.countP Label.loops ≤ 1 := hloops
    cases h
    simp only [stepF3]
    split
    · exact .inl (.goTo hback (by simp only [Label.cost]; omega))
    · split
      · exact .inl (.goTo hback (by simp only [Label.cost]; omega))
      · next hx => exact .inr ⟨Bool.not_eq_true _ ▸ hx, rfl⟩
  | _ => contradiction

/-! ## The transitions left -/

/-- The sequencer stands at a poll whose deadline is reached and that no turn can put off: the schedule is used up, and
nothing held back lets time pass. -/
def State.atDeadline (s : State) : Prop :=
  s.env = [] ∧ s.held.all Move.notifies = true ∧
    ∃ op r next back, s.fg = .running op r next back ∧ next.polls = true ∧ s.now = s.t0 + next.bound s.cfg

/-- At most so many transitions are left without a pause: the work, one for each turn of the schedule, since a poll that
stays uses one up, and one for the poll that lets the time run to the deadline when there are none (log 8). -/
def State.Remains (s : State) (n : Nat) : Prop :=
  s.work + s.env.length + 1 ≤ n ∨ (s.atDeadline ∧ s.work + s.env.length ≤ n)

theorem State.work_pos {s : State} {op : Instr} {r : Half} {next : Label} {back : List Label}
    (h : s.fg = .running op r next back) : 0 < s.work := by
  have hcost : 0 < next.cost s.l s.i := by
    cases next <;> simp only [Label.cost] <;> omega
  rw [State.work, s.stack_of_running h, stackCost_cons]
  omega

/-- A turn without a reset leaves the work. -/
theorem State.environment_work {s : State} (h : s.noResetInTurn = true) : s.environment.work = s.work := by
  obtain ⟨_, _, _, _, _, _, _, _, _, hturn⟩ := s.environment_frame h
  rw [hturn]
  rfl

theorem State.environment_t0 {s : State} (h : s.noResetInTurn = true) : s.environment.t0 = s.t0 := by
  obtain ⟨_, _, _, _, _, _, _, _, _, hturn⟩ := s.environment_frame h
  rw [hturn]

theorem State.atDeadline.polls {s : State} {op : Instr} {r : Half} {next : Label} {back : List Label}
    (h : s.atDeadline) (hfg : s.fg = .running op r next back) : next.polls = true := by
  obtain ⟨-, -, op', r', next', back', hfg', hpolls, -⟩ := h
  obtain ⟨-, -, rfl, -⟩ := Foreground.running.inj (hfg.symm.trans hfg')
  exact hpolls

/-- A turn that cannot put the deadline off leaves it reached. -/
theorem State.atDeadline.expired {s : State} {op : Instr} {r : Half} {next : Label} {back : List Label}
    (h : s.atDeadline) (hfg : s.fg = .running op r next back) (hr : s.noResetInTurn = true) :
    expired (next.bound s.environment.cfg) s.environment.now s.environment.t0 = true := by
  obtain ⟨he, hh, op', r', next', back', hfg', -, hnow⟩ := h
  obtain ⟨-, -, rfl, -⟩ := Foreground.running.inj (hfg.symm.trans hfg')
  rw [State.environment_now he hh, State.environment_t0 hr, State.environment_cfg, hnow]
  exact expired_refl _ _

/-- No step but a poll that stays changes the schedule's length or the time; no step takes a turn. -/
theorem State.NearerEnd.remains {n m : Nat} {t : State} (h : t.NearerEnd n) (hn : n + t.env.length ≤ m)
    (ht : t.fg ≠ .idle) : t.stack.countP Label.loops ≤ 1 ∧ t.Remains m := by
  obtain ⟨hloops, hwork⟩ := h.resolve_left ht
  exact ⟨hloops, .inl (by omega)⟩

/-- A poll that stays lets the time run to the deadline when the schedule is used up. -/
theorem State.stays_remains {n : Nat} {s : State} {op : Instr} {next : Label} {back : List Label}
    (hpolls : next.polls = true) (hheld : s.held.all Move.notifies = true)
    (hnone : next.cost s.l s.i + stackCost s.l s.i back ≤ n)
    (hsome : s.env ≠ [] → next.cost s.l s.i + stackCost s.l s.i back + s.env.length + 1 ≤ n) :
    ((s.stay (next.bound s.cfg)).goTo op next back).Remains n := by
  have hwork : ((s.stay (next.bound s.cfg)).goTo op next back).work =
      next.cost s.l s.i + stackCost s.l s.i back := by
    rw [State.work, State.stack_goTo, State.goTo_l, State.goTo_i, State.stay_l, State.stay_i, stackCost_cons]
  rw [State.Remains, hwork, State.goTo_env, State.stay_env]
  by_cases he : s.env = []
  · refine .inr ⟨⟨?_, ?_, op, 0, next, back, rfl, hpolls, ?_⟩, by simpa [he] using hnone⟩
    · rwa [State.goTo_env, State.stay_env]
    · rwa [State.goTo_held, State.stay_held]
    · rw [s.stay_exhausted _ he]
      rfl
  · exact .inl (hsome he)

/-- One transition without a pause ends the operation or leaves less. -/
theorem State.advance_remains {n : Nat} {s t : State} {op : Instr} {r : Half} {next : Label} {back : List Label}
    (hfg : s.fg = .running op r next back) (hp : s.pauseDue = false) (hloops : s.stack.countP Label.loops ≤ 1)
    (hn : s.Remains (n + 1)) (ha : s.advance = .next t) :
    t.fg = .idle ∨ (t.stack.countP Label.loops ≤ 1 ∧ t.Remains n) := by
  obtain hr | hidle := s.environment_cases
  · by_cases ht : t.fg = .idle
    · exact .inl ht
    have hfg' : s.environment.fg = .running op r next back := (State.environment_fg hr).trans hfg
    rw [s.advance_unpaused hp, State.foreground_running _ _ _ _ _ hfg'] at ha
    rw [s.stack_of_running hfg] at hloops
    have hwork : next.cost s.environment.l s.environment.i + stackCost s.environment.l s.environment.i back = s.work := by
      rw [← State.environment_work hr, State.work, State.stack_of_running hfg', stackCost_cons]
    have henv : t.env = s.env.tail := (congrArg Outside.env (State.atomic_outside ha)).trans s.environment_env
    have hlen : t.env.length = s.env.length - 1 := by rw [henv, List.length_tail]
    have hpos := State.work_pos hfg
    refine .inr ?_
    cases hpolls : next.polls with
    | false =>
      refine (State.atomic_nearer hloops hpolls ha).remains ?_ ht
      obtain hn | ⟨hd, -⟩ := hn
      · omega
      · exact absurd (hd.polls hfg) (Bool.eq_false_iff.1 hpolls)
    | true =>
      obtain hnear | ⟨hx, rfl⟩ := State.atomic_polls hloops hpolls ha
      · refine hnear.remains ?_ ht
        obtain hn | ⟨-, hn⟩ := hn <;> omega
      · obtain hn | ⟨hd, -⟩ := hn
        · refine ⟨hloops, State.stays_remains hpolls s.environment_held_notifies (by omega) fun he => ?_⟩
          rw [State.environment_env] at he ⊢
          have hsome : s.env.tail.length ≠ 0 := mt List.length_eq_zero_iff.1 he
          rw [List.length_tail] at hsome ⊢
          omega
        · exact absurd (hd.expired hfg hr) (Bool.eq_false_iff.1 hx)
  · rw [s.advance_unpaused hp, State.foreground_idle _ hidle, Host.Outcome.next.injEq] at ha
    exact .inl (ha ▸ hidle)

/-! ## No step stops, and every operation ends -/

theorem State.agree_refl (s : State) : s.agree s := ⟨rfl, fun _ _ _ => rfl, rfl, fun _ => rfl⟩

theorem Coupled.ofSound {s : State} (h : s.sequencerSound = true) : Coupled s s :=
  ⟨s.agree_refl, h, fun _ => rfl⟩

/-- With sound labels every transition answers a next state with sound labels. -/
theorem State.advance_answers {s : State} (h : s.sequencerSound = true) :
    ∃ t, s.advance = .next t ∧ t.sequencerSound = true := by
  obtain ⟨t, _, ht, _, hcoupled⟩ := (Coupled.ofSound h).advance_answers
  exact ⟨t, ht, hcoupled.sound⟩

theorem State.advance_noPause {s t : State} (h : s.noPause = true) (ha : s.advance = .next t) :
    t.noPause = true := by
  have henv : t.env = s.environment.env := by
    rw [s.advance_unpaused (State.pauseDue_of_noPause h)] at ha
    cases hs : s.environment.fg with
    | idle =>
      rw [State.foreground_idle _ hs, Host.Outcome.next.injEq] at ha
      rw [ha]
    | running op r next back =>
      rw [State.foreground_running _ _ _ _ _ hs] at ha
      exact congrArg Outside.env (State.atomic_outside ha)
  have hturn := State.environment_noPause h
  rwa [State.noPause, ← henv] at hturn

/-- A run with more transitions allowed than are left ends. -/
theorem State.runOn_finishes (n : Nat) {s : State} (hs : s.fg ≠ .idle) (hsound : s.sequencerSound = true)
    (hp : s.noPause = true) (hloops : s.stack.countP Label.loops ≤ 1) (hn : s.Remains n) :
    ∃ t, s.runOn n = .next t ∧ t.fg = .idle := by
  obtain ⟨op, r, next, back, hfg⟩ : ∃ op r next back, s.fg = .running op r next back := by
    cases h : s.fg with
    | idle => contradiction
    | running op r next back => exact ⟨op, r, next, back, rfl⟩
  induction n generalizing s op r next back with
  | zero =>
    have hpos := State.work_pos hfg
    obtain hn | ⟨-, hn⟩ := hn <;> omega
  | succ n ih =>
    obtain ⟨t, ha, htsound⟩ := State.advance_answers hsound
    by_cases ht : t.fg = .idle
    · exact ⟨t, s.runOn_ends n ha ht, ht⟩
    · obtain ⟨htloops, htn⟩ :=
        (State.advance_remains hfg (State.pauseDue_of_noPause hp) hloops hn ha).resolve_left ht
      have hreach : Reaches 1 s t :=
        .one (State.pauseDue_of_noPause hp) ha (Bool.eq_false_iff.2 (mt t.idle_iff.1 ht))
      rw [Nat.add_comm n 1, State.runOn_reaches hreach]
      cases hfg' : t.fg with
      | idle => exact absurd hfg' ht
      | running op' r' next' back' =>
        exact ih ht htsound (State.advance_noPause hp ha) htloops htn op' r' next' back' hfg'

/-- An accepted operation ends where its first step asks nothing and its whole work is within the bound. -/
theorem State.perform_finishes {s : State} {op : Instr} {first : Label} {back : List Label} (hs : s.fg = .idle)
    (hp : s.noPause = true) (hcost : stackCost s.l s.i (first :: back) < 1048576)
    (hloops : (first :: back).countP Label.loops ≤ 1 := by exact Nat.le_of_ble_eq_true rfl)
    (hback : back.all Label.plainReturn = true := by rfl) (hfirst : first.unguarded = true := by rfl) :
    ∃ t, s.perform op first back = .next t ∧ t.fg = .idle := by
  simp only [State.perform, hs]
  refine State.runOn_finishes _ nofun (Coupled.goTo s.agree_refl hback hfirst).sound hp hloops (.inl ?_)
  rw [State.work, State.stack_goTo, State.goTo_l, State.goTo_i, State.goTo_env, State.budget]
  omega

/-- Every operation ends under a schedule without a pause. -/
theorem exec_finishes (i : Instr) {s : State} (hs : s.fg = .idle) (hp : s.noPause = true) :
    ∃ t, exec i s = .next t ∧ t.fg = .idle := by
  cases i with
  | reserved0 => exact ⟨_, exec_reserved0_of_idle hs, rfl⟩
  | setrx _ | settx _ | imask _ => exact State.perform_finishes hs hp (Nat.le_of_ble_eq_true rfl)
  | rxacc | rdb | rxdone | rdp _ | rdp16 | rds _ => exact State.perform_finishes hs hp (Nat.le_of_ble_eq_true rfl)
  | rstart _ _ | wrb _ | rend | flush _ => exact State.perform_finishes hs hp (Nat.le_of_ble_eq_true rfl)
  | wrp len =>
    have hlen := (lenOfByte len).isLt
    refine State.perform_finishes hs hp ?_
    simp only [stackCost, List.map_cons, List.map_nil, List.sum_cons, List.sum_nil, Label.cost]
    omega
  | wrp16 len =>
    have hlen := len.isLt
    refine State.perform_finishes hs hp ?_
    simp only [stackCost, List.map_cons, List.map_nil, List.sum_cons, List.sum_nil, Label.cost]
    omega

/-- Settles O58: each transition leaves less, and what an operation starts with is within the bound. -/
theorem everyOperationEnds : Obligations.EveryOperationEnds := fun i _ hs hp => exec_finishes i hs hp

end Sys2Proof.Machine
end

section
/-! The invariant of the machine: reset meets it, every step keeps it, and under it no step stops (spec 10 R18, R24; 30 R79). -/

namespace Sys2Proof.Machine

open Sys2Proof

/-! ## No step stops -/

theorem exec_answers {s : State} (hs : s.fg = .idle) (i : Instr) :
    ∃ t, exec i s = .next t ∧ t.sequencerSound = true := by
  obtain ⟨t, _, ht, _, hcoupled⟩ := s.agree_refl.exec_answers hs i
  exact ⟨t, ht, hcoupled.sound⟩

theorem State.environment_sound {s : State} (h : s.sequencerSound = true) : s.environment.sequencerSound = true :=
  (Coupled.ofSound h).environment.sound

/-! ## The three things a step does -/

theorem step_of_running {s : State} {op : Instr} {r : Half} {next : Label} {back : List Label}
    (hs : s.fg = .running op r next back) : step s = s.runOn s.budget := by
  simp only [step, State.stepOnce, hs]

theorem step_of_no_request {s : State} (hs : s.fg = .idle) (hq : s.reqs = []) : step s = .next s.environment := by
  simp only [step, State.stepOnce, hs, State.idleStep, hq, State.idleTurn]

/-- The request that is not yet due comes one turn nearer. -/
theorem step_of_waiting_request {s : State} {q : Request} {rest : List Request} (hs : s.fg = .idle)
    (hq : s.reqs = q :: rest) (hdue : q.after ≠ 0) :
    step s = .next ({ s with reqs := ⟨q.after - 1, q.word, q.pin⟩ :: rest } : State).environment := by
  have hstep : step s = s.idleStep := by simp only [step, State.stepOnce, hs]
  simp only [hstep, State.idleStep, hq, if_neg hdue, State.idleTurn]

theorem step_of_due_request {s : State} {q : Request} {rest : List Request} (hs : s.fg = .idle)
    (hq : s.reqs = q :: rest) (hdue : q.after = 0) :
    step s = exec (decode q.word) { s with reqs := rest, inBuf := q.pin } := by
  have hstep : step s = s.idleStep := by simp only [step, State.stepOnce, hs]
  simp only [hstep, State.idleStep, hq, if_pos hdue, State.accept]

/-- A step goes on with the operation in progress, it has a turn of the environment, or it runs the operation of the
request that is due. -/
theorem step_cases (s : State) :
    ((∃ op r next back, s.fg = .running op r next back) ∧ step s = s.runOn s.budget) ∨
    (∃ reqs, step s = .next ({ s with reqs := reqs } : State).environment) ∨
    (s.fg = .idle ∧ ∃ i reqs pin, step s = exec i { s with reqs := reqs, inBuf := pin }) := by
  by_cases hs : s.fg = .idle
  · cases hq : s.reqs with
    | nil => exact .inr (.inl ⟨s.reqs, step_of_no_request hs hq⟩)
    | cons q rest =>
      by_cases hdue : q.after = 0
      · exact .inr (.inr ⟨hs, _, _, _, step_of_due_request hs hq hdue⟩)
      · exact .inr (.inl ⟨_, step_of_waiting_request hs hq hdue⟩)
  · cases hfg : s.fg with
    | idle => contradiction
    | running op r next back => exact .inl ⟨⟨op, r, next, back, rfl⟩, step_of_running hfg⟩

/-- With sound labels a step answers a next state with sound labels. -/
theorem step_answers {s : State} (h : s.sequencerSound = true) : ∃ t, step s = .next t ∧ t.sequencerSound = true := by
  obtain ⟨-, e⟩ | ⟨reqs, e⟩ | ⟨hs, i, reqs, pin, e⟩ := step_cases s <;> rw [e]
  · obtain ⟨t, _, ht, _, hcoupled⟩ := (Coupled.ofSound h).runOn_answers s.budget
    exact ⟨t, ht, hcoupled.sound⟩
  · exact ⟨_, rfl, State.environment_sound (s := { s with reqs := reqs }) h⟩
  · exact exec_answers (s := { s with reqs := reqs, inBuf := pin }) hs i

/-- Settles O57: the labels of the sequencer are sound. -/
theorem noStepStopsUnderTheInvariant : Obligations.NoStepStopsUnderTheInvariant := by
  intro s hinv
  obtain ⟨-, -, -, -, -, -, -, hsound⟩ := hinv
  obtain ⟨t, ht, -⟩ := step_answers hsound
  exact ⟨t, ht⟩

/-! ## A property that every move and every atomic step keeps -/

theorem State.foreground_keeps {P : State → Prop}
    (hatomic : ∀ s t op r next back, P s → s.fg = .running op r next back → s.atomic op r next back = .next t → P t)
    (s t : State) (h : P s) (hfg : s.foreground = .next t) : P t := by
  cases hs : s.fg with
  | idle =>
    rw [s.foreground_idle hs, Host.Outcome.next.injEq] at hfg
    exact hfg ▸ h
  | running op r next back =>
    rw [s.foreground_running _ _ _ _ hs] at hfg
    exact hatomic s t op r next back h hs hfg

/-- What every turn and every atomic step keeps, an accepted operation keeps from its first label on. -/
theorem State.perform_keeps {P : State → Prop} {s t : State} {op : Instr} {first : Label} {back : List Label}
    (henv : ∀ s, P s → P s.environment)
    (hatomic : ∀ s t op r next back, P s → s.fg = .running op r next back → s.atomic op r next back = .next t → P t)
    (hs : s.fg = .idle) (h : P (s.goTo op first back)) (hp : s.perform op first back = .next t) : P t := by
  simp only [State.perform, hs] at hp
  exact State.runOn_keeps P (State.advance_keeps P henv (State.foreground_keeps hatomic)) _ _ t h hp

/-- How an operation starts: the reserved code fails at once, any other stands at its first label. -/
theorem exec_eq_perform (i : Instr) (s : State) : i = .reserved0 ∨
    ∃ first back, exec i s = s.perform i first back ∧ first.unguarded = true ∧ back.all Label.plainReturn = true := by
  cases i with
  | reserved0 => exact .inl rfl
  | setrx _ | settx _ | imask _ => exact .inr ⟨_, _, rfl, rfl, rfl⟩
  | rxacc | rdb | rxdone | rdp _ | rdp16 | rds _ => exact .inr ⟨_, _, rfl, rfl, rfl⟩
  | rstart _ _ | wrb _ | wrp _ | wrp16 _ | rend | flush _ => exact .inr ⟨_, _, rfl, rfl, rfl⟩

/-- A property that does not look at the sequencer and that every turn, every atomic step and a failure keep, a step
keeps. -/
theorem step_keeps {P : State → Prop} (henv : ∀ s, P s → P s.environment)
    (hatomic : ∀ s t op r next back, P s → s.fg = .running op r next back → s.atomic op r next back = .next t → P t)
    (haccept : ∀ s reqs pin, P s → P { s with reqs := reqs, inBuf := pin })
    (hgoTo : ∀ s op first back, P s → first.unguarded = true → back.all Label.plainReturn = true →
      P (s.goTo op first back))
    (hfail : ∀ s, P s → P (s.fail .refused)) {s t : State} (h : P s) (hstep : step s = .next t) : P t := by
  obtain ⟨-, e⟩ | ⟨reqs, e⟩ | ⟨hs, i, reqs, pin, e⟩ := step_cases s <;> rw [e] at hstep
  · exact State.runOn_keeps P (State.advance_keeps P henv (State.foreground_keeps hatomic)) _ _ t h hstep
  · cases hstep
    exact henv _ (haccept s reqs s.inBuf h)
  · have hq := haccept s reqs pin h
    obtain rfl | ⟨first, back, he, hfirst, hback⟩ := exec_eq_perform i { s with reqs := reqs, inBuf := pin }
    · rw [exec_reserved0_of_idle (s := { s with reqs := reqs, inBuf := pin }) hs] at hstep
      cases hstep
      exact hfail _ hq
    · rw [he] at hstep
      exact State.perform_keeps (s := { s with reqs := reqs, inBuf := pin }) henv hatomic hs
        (hgoTo _ _ _ _ hq hfirst hback) hstep

/-! ## The invariant -/

/-- The invariant, the labels of the sequencer left out. -/
def State.Bounded (s : State) : Prop :=
  s.cfg.valid = true ∧ 1 ≤ s.rxpos.toNat ∧ s.rxpos.toNat ≤ 32 ∧ s.rxref < 2 ^ s.cfg.refW ∧ s.txout.length ≤ 32 ∧
    (s.txLog = [] ∨ s.txLog.getLast? = some s.txout) ∧ Memory.wf s.out = true

theorem State.inv_iff (s : State) : s.Inv ↔ s.Bounded ∧ s.sequencerSound = true := by
  simp only [State.Inv, State.Bounded, and_assoc]

section Bounded

variable {s t : State} {op : Instr} {back : List Label}

theorem State.Bounded.ite {p : Prop} [Decidable p] (hs : p → s.Bounded) (ht : ¬ p → t.Bounded) :
    (if p then s else t).Bounded := by
  by_cases hp : p
  · rw [if_pos hp]
    exact hs hp
  · rw [if_neg hp]
    exact ht hp

theorem State.Bounded.stay (h : s.Bounded) (timeout : Millis) : (s.stay timeout).Bounded := .ite (fun _ => h) fun _ => h

/-- The receive cursor is put at an index of a chunk or at the boundary. -/
theorem State.Bounded.setRxpos (h : s.Bounded) (k : BitVec 6) (hlow : 1 ≤ k.toNat) (hhigh : k.toNat ≤ 32) :
    ({ s with rxpos := k } : State).Bounded := by
  obtain ⟨hcfg, -, -, hrest⟩ := h
  exact ⟨hcfg, hlow, hhigh, hrest⟩

theorem State.Bounded.storeOut (h : s.Bounded) (k : Nat) (b : Byte) : (s.storeOut k b).Bounded := by
  obtain ⟨hcfg, hlow, hhigh, href, hout, hlog, hwf⟩ := h
  exact ⟨hcfg, hlow, hhigh, href, hout, hlog, s.storeOut_wf k b hwf⟩

theorem State.Bounded.storeClamped (h : s.Bounded) (b : Byte) : (s.storeClamped b).Bounded :=
  .ite (fun _ => h.storeOut _ _) fun _ => h

theorem State.Bounded.handOff (h : s.Bounded) : s.handOff.Bounded := by
  obtain ⟨hcfg, hlow, hhigh, href, -, -, hwf⟩ := h
  refine ⟨hcfg, hlow, hhigh, href, ?_, .inr ?_, hwf⟩
  · exact (List.length_take_le' _ _).trans_eq Vector.length_toList
  · simp [State.handOff]

theorem State.Bounded.atomic {r : Half} {next : Label} (h : s.Bounded) (ha : s.atomic op r next back = .next t) :
    t.Bounded := by
  obtain ⟨_, _, _, e⟩ := State.atomic_writes ha
  rw [e]
  show (s.writes r next).Bounded
  cases next with
  | a3 => exact .ite (fun _ => h) fun _ => h.setRxpos 32 (by decide) (by decide)
  | a4 | b8r => exact h.setRxpos 1 (by decide) (by decide)
  | b9 =>
    obtain ⟨v, hv, -⟩ | ⟨-, e⟩ := stepB9_cases op back s
    · have hlt : s.rxpos.toNat < 32 := (Vector.getElem?_eq_some_iff.1 hv).1
      exact h.setRxpos (s.rxpos + 1) (by bv_omega) (by bv_omega)
    · cases e.symm.trans ha
  | d2 => exact h.setRxpos 32 (by decide) (by decide)
  | p2r => exact h.storeClamped _
  | q3r | q4r | t2 => exact h.storeOut _ _
  | f4 => exact h.handOff
  -- The step writes none of the fields.
  | b8v | dataStart _ | dataLoop _ => exact .ite (fun _ => h) fun _ => h
  | b7 | f3 => exact .ite (fun _ => h) fun _ => .ite (fun _ => h) fun _ => h.stay _
  | _ => exact h

theorem State.Bounded.applyMove (h : s.Bounded) (m : Move) : (s.applyMove m).Bounded := by
  cases m with
  | rx c ref =>
    refine .ite (fun _ => h) fun _ => ?_
    obtain ⟨hcfg, hlow, hhigh, -, hrest⟩ := h
    exact ⟨hcfg, hlow, hhigh, Nat.mod_lt _ (Nat.two_pow_pos _), hrest⟩
  | tx => exact .ite (fun _ => h) fun _ => h
  | tick _ => exact h
  | rst =>
    obtain ⟨hcfg, -, -, -, hrest⟩ := h
    exact ⟨hcfg, (by decide : 1 ≤ 32), Nat.le_refl 32, Nat.two_pow_pos _, hrest⟩

theorem State.Bounded.environment (h : s.Bounded) : s.environment.Bounded :=
  State.environment_keeps State.Bounded (fun _ _ _ h => h) (fun _ m h => h.applyMove m) s h

end Bounded

/-- Settles O56: moves and atomic steps keep the bounds, and the labels stay sound. -/
theorem everyStepKeepsTheInvariant : Obligations.EveryStepKeepsTheInvariant := by
  intro s t hinv hstep
  obtain ⟨hbounded, hsound⟩ := s.inv_iff.1 hinv
  refine t.inv_iff.2 ⟨?_, ?_⟩
  · exact step_keeps (fun _ h => h.environment) (fun _ _ _ _ _ _ h _ ha => h.atomic ha) (fun _ _ _ h => h)
      (fun _ _ _ _ h _ _ => h) (fun _ h => h) hbounded hstep
  · obtain ⟨u, hu, husound⟩ := step_answers hsound
    cases hu.symm.trans hstep
    exact husound

/-- Settles O55. -/
theorem resetMeetsTheInvariant : Obligations.ResetMeetsTheInvariant := by
  have h : ∀ c : Config, c.valid = true → (State.ofConfig c).Inv := fun c hc =>
    ⟨hc, (by decide : 1 ≤ 32), (by decide : 32 ≤ 32), Nat.two_pow_pos _, Nat.zero_le 32, .inl rfl, rfl, rfl⟩
  exact ⟨h, h _ (by decide)⟩

/-! ## What no step changes (10 R25) -/

/-- Only FLUSH's F4 writes the history of hand-offs. -/
theorem State.atomic_keeps_txLog {s t : State} {op : Instr} {r : Half} {next : Label} {back : List Label}
    (hn : next ≠ .f4) (h : s.atomic op r next back = .next t) : t.txLog = s.txLog := by
  obtain ⟨_, _, _, rfl⟩ := State.atomic_writes h
  show (s.writes r next).txLog = s.txLog
  cases next with
  | f4 => contradiction
  | a3 | b8v | dataStart _ | dataLoop _ => exact proj_ite rfl rfl
  | b7 | f3 => exact proj_ite rfl (proj_ite rfl (proj_ite rfl rfl))
  | p2r => exact (proj_ite rfl rfl : (s.storeClamped (resultByte r)).txLog = _)
  | _ => rfl

/-- The history of hand-offs only grows. -/
theorem State.atomic_txLog {s t : State} {op : Instr} {r : Half} {next : Label} {back : List Label}
    (h : s.atomic op r next back = .next t) : s.txLog <+: t.txLog := by
  by_cases hn : next = .f4
  · subst hn
    cases h
    exact List.prefix_append _ _
  · exact State.atomic_keeps_txLog hn h ▸ List.prefix_rfl

/-- Settles O59: neither a move nor an atomic step writes a parameter or takes from the history. -/
theorem parametersNeverChange : Obligations.ParametersNeverChange := by
  intro s t hstep
  refine step_keeps (P := fun u => u.cfg = s.cfg ∧ s.txLog <+: u.txLog) ?_ ?_ (fun _ _ _ h => h)
    (fun _ _ _ _ h _ _ => h) (fun _ h => h) ⟨rfl, List.prefix_rfl⟩ hstep
  · intro u ⟨hcfg, hlog⟩
    exact ⟨u.environment_cfg.trans hcfg, u.environment_txLog.symm ▸ hlog⟩
  · intro u v op r next back ⟨hcfg, hlog⟩ _ ha
    exact ⟨(congrArg Outside.cfg (State.atomic_outside ha)).trans hcfg, hlog.trans (State.atomic_txLog ha)⟩

end Sys2Proof.Machine
end

section
/-! Which steps write the shared registers: the status fields, the two flags, XBUF (spec 10 R11, R14, R15; 20 R42). -/

namespace Sys2Proof.Machine

open Sys2Proof

/-- Settles O11: by what an atomic step can do to the status fields. -/
theorem onlyNamedStepsWriteTheStatus : Obligations.OnlyNamedStepsWriteTheStatus := by
  intro s t op r next back hfg h
  rw [s.foreground_running _ _ _ _ hfg] at h
  obtain ⟨hrx, htx⟩ | ⟨hnamed, htx⟩ | ⟨hnamed, hrx⟩ := State.atomic_status_cases h
  · exact ⟨fun hne => absurd hrx hne, fun hne => absurd htx hne⟩
  · exact ⟨fun _ => ⟨hnamed, htx⟩, fun hne => absurd htx hne⟩
  · exact ⟨fun hne => absurd hrx hne, fun _ => ⟨hnamed, hrx⟩⟩

/-! ## The readiness flags -/

section Flags

variable {s t : State} {op : Instr} {r : Half} {next : Label} {back : List Label}

theorem State.atomic_dataReceived (h : s.atomic op r next back = .next t) :
    t.dataReceived = s.dataReceived ∨ (t.dataReceived = false ∧ (next = .b3 ∨ next = .d1)) := by
  obtain ⟨_, _, _, rfl⟩ := State.atomic_writes h
  show (s.writes r next).dataReceived = s.dataReceived ∨ ((s.writes r next).dataReceived = false ∧ (next = .b3 ∨ next = .d1))
  cases next with
  | b3 => exact .inr ⟨rfl, .inl rfl⟩
  | d1 => exact .inr ⟨rfl, .inr rfl⟩
  | a3 | b8v | dataStart _ | dataLoop _ => exact .inl (proj_ite rfl rfl)
  | b7 | f3 => exact .inl (proj_ite rfl (proj_ite rfl (proj_ite rfl rfl)))
  | p2r => exact .inl (proj_ite rfl rfl : (s.storeClamped (resultByte r)).dataReceived = _)
  | _ => exact .inl rfl

theorem State.atomic_dataSent (h : s.atomic op r next back = .next t) :
    t.dataSent = s.dataSent ∨ (t.dataSent = false ∧ next = .f4) := by
  obtain ⟨_, _, _, rfl⟩ := State.atomic_writes h
  show (s.writes r next).dataSent = s.dataSent ∨ ((s.writes r next).dataSent = false ∧ next = .f4)
  cases next with
  | f4 => exact .inr ⟨rfl, rfl⟩
  | a3 | b8v | dataStart _ | dataLoop _ => exact .inl (proj_ite rfl rfl)
  | b7 | f3 => exact .inl (proj_ite rfl (proj_ite rfl (proj_ite rfl rfl)))
  | p2r => exact .inl (proj_ite rfl rfl : (s.storeClamped (resultByte r)).dataSent = _)
  | _ => exact .inl rfl

end Flags

/-- Settles O12: the foreground only clears the flags, and a handler only sets its own. -/
theorem onlyNamedStepsWriteTheFlags : Obligations.OnlyNamedStepsWriteTheFlags := by
  refine ⟨fun s t op r next back hfg h => ?_, fun s m hm => ?_⟩
  · rw [s.foreground_running _ _ _ _ hfg] at h
    exact ⟨(State.atomic_dataReceived h).resolve_left, (State.atomic_dataSent h).resolve_left⟩
  · obtain ⟨ms, -, e⟩ | ⟨-, e⟩ | ⟨-, c, ref, hrx, e⟩ | ⟨-, htx, e⟩ := s.applyMove_cases m hm <;> rw [e]
    · exact ⟨fun hne => absurd rfl hne, fun hne => absurd rfl hne⟩
    · exact ⟨fun hne => absurd rfl hne, fun hne => absurd rfl hne⟩
    · exact ⟨fun _ => ⟨rfl, c, ref, hrx⟩, fun hne => absurd rfl hne⟩
    · exact ⟨fun hne => absurd rfl hne, fun _ => ⟨rfl, htx⟩⟩

/-! ## What the block cannot write -/

theorem State.foreground_outside {s t : State} (h : s.foreground = .next t) : t.outside = s.outside :=
  State.foreground_keeps (P := fun u => u.outside = s.outside)
    (fun _ _ _ _ _ _ hu _ ha => (State.atomic_outside ha).trans hu) s t rfl h

/-- With nothing scheduled and nothing held back an operation writes nothing outside the block. -/
theorem exec_outside_alone {i : Instr} {s t : State} (h : s.alone) (he : exec i s = .next t) :
    t.outside = s.outside := by
  obtain ⟨hs, henv, hheld⟩ := h
  obtain rfl | ⟨first, back, hperform, -, -⟩ := exec_eq_perform i s
  · rw [exec_reserved0_of_idle hs] at he
    cases he
    rfl
  · rw [hperform] at he
    refine State.perform_keeps (P := fun u => u.outside = s.outside) (fun u hu => ?_)
      (fun _ _ _ _ _ _ hu _ ha => (State.atomic_outside ha).trans hu) hs rfl he
    have hquiet : u.environment = u :=
      u.environment_quiet ((congrArg Outside.env hu).trans henv) ((congrArg Outside.held hu).trans hheld)
    rw [hquiet, hu]

/-- Settles O54: XBUF and RXREF are among what no atomic step writes. -/
theorem blockNeverWritesXbuf : Obligations.BlockNeverWritesXbuf := by
  have hbyte : ∀ {s t : State}, t.outside = s.outside → ∀ k, t.byteAt .xbuf k = s.byteAt .xbuf k := by
    intro s t h k
    exact congrArg (fun x : Outside => x.xbuf[k]?) h
  refine ⟨fun s t h => hbyte (State.foreground_outside h), fun i s t halone he => ?_⟩
  have hout := exec_outside_alone halone he
  exact ⟨hbyte hout, congrArg Outside.rxref hout⟩

end Sys2Proof.Machine
end

section
/-! Where an atomic step goes on, and what the results and the frames of the operations follow from (spec 30 R74; 41; 42). -/

namespace Sys2Proof.Machine

open Sys2Proof

/-! ## The labels that an atomic step puts on the sequencer -/

/-- The labels that the step puts on the sequencer when it goes on; `d` is the byte that a loop over data bytes
appends. -/
def Label.follows (c : Config) (d : Byte) : Label → List Label
  | .a1 => [.a2] | .a2 => [.a3] | .a3 => [.a4]
  | .b1 => [.b9, .b2] | .b2 => [.b3] | .b3 => [.b4] | .b4 => [.b5] | .b5 => [.b6] | .b6 => [.b7]
  | .b7 => [.b8, .b7] | .b8 => [.b8v] | .b8v => [.b8r] | .b8r => [.b9]
  | .d1 => [.d2] | .d2 => [.d3]
  | .p1 cap => [.b1, .p1r cap] | .p1r _ => [.p2] | .p2 => [.b1, .p2r] | .p2r => [.p2]
  | .q1 => [.b1, .q2] | .q2 => [.q3] | .q3 => [.b1, .q3r] | .q3r => [.q4] | .q4 => [.b1, .q4r]
  | .t2 => [.t3]
  | .s1 => [.s2] | .s2 => [.s3] | .s3 => [.w1 c.startCmd] | .s4 cmd => [.w1 (replyCommand cmd)] | .s5 n => [.w1 n]
  | .w1 b => [.f1 c.indContinues, .w2 b]
  | .f1 _ => [.f2] | .f2 => [.f3] | .f3 => [.f4, .f3] | .f4 => [.f5]
  | .u1 len => [.w1 len] | .v1 len => [.w1 (lenHigh len), .v2 len] | .v2 len => [.w1 (lenLow len)]
  | .dataStart len => [.w1 d, .dataLoop len] | .dataLoop len => [.w1 d, .dataLoop len]
  | .e1 => [.w1 c.endCmd, .e2] | .e2 => [.f1 c.indFinished]
  | _ => []

/-- The sequencer is idle, or the labels to return to are still on it and above them only some of these. -/
def State.GoesOn (back : List Label) (next : List Label) (t : State) : Prop :=
  t.fg = .idle ∨ ∃ pushed, t.stack = pushed ++ back ∧ ∀ l ∈ pushed, l ∈ next

section GoesOn

variable {s t : State} {op : Instr} {back ls : List Label}

theorem State.GoesOn.goTo {next : Label} (h : next ∈ ls) : (s.goTo op next back).GoesOn back ls :=
  .inr ⟨[next], rfl, List.forall_mem_singleton.2 h⟩

theorem State.GoesOn.call {next after : Label} (h : next ∈ ls) (h' : after ∈ ls) :
    (s.goTo op next (after :: back)).GoesOn back ls :=
  .inr ⟨[next, after], rfl, List.forall_mem_cons.2 ⟨h, List.forall_mem_singleton.2 h'⟩⟩

theorem State.GoesOn.finish (v : Half) : (s.finish op v back).GoesOn back ls :=
  .inr ⟨[], s.stack_finish op v back, nofun⟩

theorem State.GoesOn.ite {p : Prop} [Decidable p] (hs : s.GoesOn back ls) (ht : t.GoesOn back ls) :
    (if p then s else t).GoesOn back ls := by
  by_cases hp : p
  · rwa [if_pos hp]
  · rwa [if_neg hp]

theorem State.atomic_goesOn {r : Half} {next : Label} (h : s.atomic op r next back = .next t) :
    ∃ d, t.GoesOn back (next.follows s.cfg d) := by
  cases next with
  | b9 =>
    obtain ⟨v, -, e⟩ | ⟨-, e⟩ := stepB9_cases op back s <;> cases e.symm.trans h
    exact ⟨0, .finish _⟩
  | w2 d =>
    obtain ⟨-, e⟩ | ⟨-, e⟩ := stepW2_cases op d back s <;> cases e.symm.trans h
    exact ⟨0, .finish _⟩
  -- The step ends the operation or the primitive.
  | setrxS1 _ | settxS1 _ | imaskS1 _ | a4 | d3 | p3 | q4r | t3 | f5 | dataDone => cases h; exact ⟨0, .finish _⟩
  -- The step calls a primitive.
  | p1 _ | q1 | q3 | q4 | v1 _ | e1 => cases h; exact ⟨0, .call (.head _) (.tail _ (.head _))⟩
  | p2 => cases h; exact ⟨0, .ite (.call (.head _) (.tail _ (.head _))) (.finish _)⟩
  | w1 _ => cases h; exact ⟨0, .ite (.call (.head _) (.tail _ (.head _))) (.goTo (.tail _ (.head _)))⟩
  | dataStart _ => cases h; exact ⟨_, .ite (.call (.head _) (.tail _ (.head _))) (.finish _)⟩
  | dataLoop _ => cases h; exact ⟨_, .ite (.call (.head _) (.tail _ (.head _))) (.finish _)⟩
  -- The step tests a condition.
  | a1 | a3 | b2 | b8v | q2 => cases h; exact ⟨0, .ite (.goTo (.head _)) (.inl rfl)⟩
  | b1 => cases h; exact ⟨0, .ite (.goTo (.head _)) (.goTo (.tail _ (.head _)))⟩
  | b7 => cases h; exact ⟨0, .ite (.goTo (.head _)) (.ite (.inl rfl) (.goTo (.tail _ (.head _))))⟩
  | f1 _ => cases h; exact ⟨0, .ite (.finish _) (.goTo (.head _))⟩
  | f3 => cases h; exact ⟨0, .ite (.goTo (.head _)) (.ite (.goTo (.head _)) (.goTo (.tail _ (.head _))))⟩
  -- The step only goes on.
  | _ => cases h; exact ⟨0, .goTo (.head _)⟩

end GoesOn

/-- No step at a label of the class puts a label outside it on the sequencer. -/
def Label.Closed (Q : Label → Bool) : Prop :=
  ∀ (c : Config) (d : Byte) (l : Label), (!Q l || (l.follows c d).all Q) = true

theorem Label.Closed.follows {Q : Label → Bool} (hQ : Label.Closed Q) (c : Config) (d : Byte) {l x : Label}
    (hl : Q l = true) (hx : x ∈ l.follows c d) : Q x = true := by
  have hall := hQ c d l
  rw [hl, Bool.not_true, Bool.false_or, List.all_eq_true] at hall
  exact hall x hx

/-- An operation stays in a closed class. -/
theorem State.atomic_stays_in {Q : Label → Bool} (hQ : Label.Closed Q)
    {s t : State} {op : Instr} {r : Half} {next : Label} {back : List Label}
    (hfg : s.fg = .running op r next back) (h : s.atomic op r next back = .next t)
    (hs : ∀ l ∈ s.stack, Q l = true) : ∀ l ∈ t.stack, Q l = true := by
  rw [s.stack_of_running hfg, List.forall_mem_cons] at hs
  obtain ⟨hnext, hback⟩ := hs
  obtain ⟨d, hidle | ⟨pushed, hstack, hpushed⟩⟩ := State.atomic_goesOn h
  · rw [t.stack_of_idle hidle]
    nofun
  · rw [hstack]
    intro l hl
    obtain hl | hl := List.mem_append.1 hl
    · exact hQ.follows s.cfg d hnext (hpushed l hl)
    · exact hback l hl

/-- A turn without a reset leaves the labels. -/
theorem State.environment_stack {s : State} (h : s.noResetInTurn = true) : s.environment.stack = s.stack := by
  rw [State.stack, State.stack, State.environment_fg h]

end Sys2Proof.Machine
end

section
/-! The results of the operations, under any schedule without a reset or a pause (spec 30 R74). -/

namespace Sys2Proof.Machine

open Sys2Proof

/-! ## What the parameter readers take from the length byte and the operand -/

/-- The step leads to the one that takes L and CAP, or it is that. -/
def Label.takesParams : Label → Bool
  | .p1 _ | .p1r _ => true
  | _ => false

/-- The step uses L or CAP, or leads to one that does. -/
def Label.usesParams : Label → Bool
  | .p2 | .p2r | .p3 | .t2 | .t3 => true
  | _ => false

/-- An operand CAP that the label carries is at most `b`. -/
def Label.capWithin (b : Nat) : Label → Bool
  | .p1 cap | .p1r cap => decide (cap.toNat ≤ b)
  | _ => true

theorem Label.capWithin_closed (b : Nat) : Label.Closed (Label.capWithin b) := by
  intro c d l
  cases l with
  | p1 cap =>
    show (!decide (cap.toNat ≤ b) || (decide (cap.toNat ≤ b) && true)) = true
    rw [Bool.and_true, Bool.not_or_self]
  | p1r cap => exact Bool.or_true _
  | _ => rfl

theorem Label.eq_of_takesParams {l : Label} (h : l.takesParams = true) : ∃ cap, l = .p1 cap ∨ l = .p1r cap := by
  cases l with
  | p1 cap => exact ⟨cap, .inl rfl⟩
  | p1r cap => exact ⟨cap, .inr rfl⟩
  | _ => contradiction

theorem Label.not_takesParams_of_uses {l : Label} (h : l.usesParams = true) : l.takesParams = false := by
  cases l with
  | p2 | p2r | p3 | t2 | t3 => rfl
  | _ => contradiction

/-- From the top of the labels on, L and CAP are taken before they are used, if they are used. -/
def takenBeforeUse : List Label → Bool
  | [] => true
  | l :: rest => l.takesParams || (!l.usesParams && takenBeforeUse rest)

theorem takenBeforeUse_append {above rest : List Label} (h : ∀ l ∈ above, l.usesParams = false)
    (hrest : takenBeforeUse rest = true) : takenBeforeUse (above ++ rest) = true := by
  induction above with
  | nil => exact hrest
  | cons l above ih =>
    obtain ⟨hl, habove⟩ := List.forall_mem_cons.1 h
    simp only [List.cons_append, takenBeforeUse, hl, ih habove, Bool.not_false, Bool.and_self, Bool.or_true]

/-- L is a byte and CAP is at most `b`, or both are taken before they are used. -/
structure State.ParamsWithin (b : Nat) (s : State) : Prop where
  labels : ∀ l ∈ s.stack, l.capWithin b = true
  taken : (s.l.toNat ≤ 255 ∧ s.cap.toNat ≤ b) ∨ takenBeforeUse s.stack = true

/-- L and CAP. -/
def State.params (s : State) : Half × Half := (s.l, s.cap)

/-- Only P1r writes L and CAP. -/
theorem State.atomic_params {s t : State} {op : Instr} {r : Half} {next : Label} {back : List Label}
    (hn : ∀ cap, next ≠ .p1r cap) (h : s.atomic op r next back = .next t) : t.params = s.params := by
  obtain ⟨_, _, _, rfl⟩ := State.atomic_writes h
  show (s.writes r next).params = s.params
  cases next with
  | p1r cap => exact absurd rfl (hn cap)
  | a3 | b8v | dataStart _ | dataLoop _ => exact proj_ite rfl rfl
  | b7 | f3 => exact proj_ite rfl (proj_ite rfl (proj_ite rfl rfl))
  | p2r => exact (proj_ite rfl rfl : (s.storeClamped (resultByte r)).params = _)
  | _ => rfl

/-- Only P1r leads to a use of L and CAP where there was none. -/
theorem Label.usesParams_follows (c : Config) (d : Byte) {l : Label} (h : l.usesParams = false)
    (hn : ∀ cap, l ≠ .p1r cap) : (l.follows c d).all (fun x => !x.usesParams) = true := by
  cases l with
  | p1r cap => exact absurd rfl (hn cap)
  | p2 | p2r | t2 => contradiction
  | _ => rfl

theorem State.ParamsWithin.atomic {b : Nat} {s t : State} {op : Instr} {r : Half} {next : Label} {back : List Label}
    (hs : s.ParamsWithin b) (hfg : s.fg = .running op r next back) (h : s.atomic op r next back = .next t) :
    t.ParamsWithin b := by
  obtain ⟨hlabels, htaken⟩ := hs
  refine ⟨State.atomic_stays_in (Label.capWithin_closed b) hfg h hlabels, ?_⟩
  rw [s.stack_of_running hfg] at hlabels htaken
  obtain ⟨hnext, -⟩ := List.forall_mem_cons.1 hlabels
  by_cases hp1r : ∃ cap, next = .p1r cap
  · obtain ⟨cap, rfl⟩ := hp1r
    cases h
    exact .inl ⟨byteResult_le _, of_decide_eq_true hnext⟩
  · have hnot : ∀ cap, next ≠ .p1r cap := fun cap he => hp1r ⟨cap, he⟩
    obtain ⟨hl, hcap⟩ := Prod.mk.inj (State.atomic_params hnot h)
    rw [hl, hcap]
    obtain hin | htaken := htaken
    · exact .inl hin
    refine .inr ?_
    obtain ⟨d, hidle | ⟨pushed, hstack, hpushed⟩⟩ := State.atomic_goesOn h
    · rw [t.stack_of_idle hidle]
      rfl
    cases hn : next.takesParams with
    | true =>
      obtain ⟨cap, rfl | rfl⟩ := Label.eq_of_takesParams hn
      · cases h
        rfl
      · exact absurd rfl (hnot cap)
    | false =>
      rw [takenBeforeUse, hn, Bool.false_or, Bool.and_eq_true, Bool.not_eq_true'] at htaken
      rw [hstack]
      refine takenBeforeUse_append (fun l hl => ?_) htaken.2
      simpa using List.all_eq_true.1 (Label.usesParams_follows s.cfg d htaken.1 hnot) l (hpushed l hl)

/-- Where the step uses L or CAP, they have been taken. -/
theorem State.ParamsWithin.of_uses {b : Nat} {s : State} {op : Instr} {r : Half} {next : Label} {back : List Label}
    (h : s.ParamsWithin b) (hfg : s.fg = .running op r next back) (hn : next.usesParams = true) :
    s.l.toNat ≤ 255 ∧ s.cap.toNat ≤ b := by
  refine h.taken.resolve_right fun htaken => ?_
  rw [s.stack_of_running hfg, takenBeforeUse, hn, Label.not_takesParams_of_uses hn] at htaken
  exact Bool.false_ne_true htaken

theorem State.ParamsWithin.environment {b : Nat} {s : State} (hs : s.ParamsWithin b) (h : s.noResetInTurn = true) :
    s.environment.ParamsWithin b := by
  obtain ⟨hlabels, htaken⟩ := hs
  obtain ⟨_, _, _, _, _, _, _, _, _, hturn⟩ := s.environment_frame h
  rw [hturn]
  exact ⟨hlabels, htaken⟩

/-! ## Runs without a reset -/

theorem State.noReset_of_outside {s t : State} (h : t.outside = s.outside) : t.noReset = s.noReset :=
  congrArg (fun x : Outside => x.held.all Move.notReset && x.env.all (fun t => t.moves.all Move.notReset)) h

/-- What every turn without a reset and every atomic step keep, an operation keeps under a schedule without a reset. -/
theorem State.perform_keeps_calm {P : State → Prop} {s t : State} {op : Instr} {first : Label} {back : List Label}
    (henv : ∀ s, P s → s.noResetInTurn = true → P s.environment)
    (hatomic : ∀ s t op r next back, P s → s.fg = .running op r next back → s.atomic op r next back = .next t → P t)
    (hs : s.fg = .idle) (hr : s.noReset = true) (h : P (s.goTo op first back))
    (hp : s.perform op first back = .next t) : P t := by
  refine (State.perform_keeps (P := fun u => u.noReset = true ∧ P u) ?_ ?_ hs ⟨hr, h⟩ hp).2
  · exact fun u ⟨hu, hP⟩ => ⟨State.environment_noReset hu, henv u hP (State.noResetInTurn_of_noReset hu)⟩
  · intro u v op r next back ⟨hu, hP⟩ hfg ha
    exact ⟨(State.noReset_of_outside (State.atomic_outside ha)).trans hu, hatomic u v op r next back hP hfg ha⟩

/-! ## The results -/

/-- The step reads, or leads to a read: it may fail (41 R122). -/
def Label.reads : Label → Bool
  | .a1 | .a2 | .a3 | .a4 => true
  | .b1 | .b2 | .b3 | .b4 | .b5 | .b6 | .b7 | .b8 | .b8v | .b8r | .b9 => true
  | .p1 _ | .p1r _ | .p2 | .p2r | .p3 => true
  | .q1 | .q2 | .q3 | .q3r | .q4 | .q4r => true
  | .t2 | .t3 => true
  | _ => false

/-- No operation that cannot fail comes to a read. -/
theorem Label.certain_closed : Label.Closed fun l => !l.reads := by
  intro c d l
  cases l <;> rfl


/-- If the operation has ended, its result is -1 exactly when a cause is recorded, else 0 to 255. -/
def State.ResultSound (t : State) : Prop :=
  t.fg = .idle → (t.res = 0xFFFF ↔ t.cause.isSome = true) ∧ (t.cause = none → t.res.toNat ≤ 255)

/-- If the operation has ended, it has returned 0. -/
def State.ReturnsZero (t : State) : Prop := t.fg = .idle → t.res = 0 ∧ t.cause = none

section Results

variable {s t : State} {op : Instr} {r : Half} {next : Label} {back : List Label}

theorem State.ResultSound.fail (c : Cause) : (s.fail c).ResultSound := fun _ => ⟨⟨fun _ => rfl, fun _ => rfl⟩, nofun⟩

theorem State.ResultSound.finish {v : Half} (hv : v.toNat ≤ 255) : (s.finish op v back).ResultSound := by
  cases back with
  | nil =>
    refine fun _ => ⟨⟨fun h => ?_, nofun⟩, fun _ => hv⟩
    have hffff : v = 0xFFFF := h
    simp [hffff] at hv
  | cons l rest => nofun

theorem State.ResultSound.ite {p : Prop} [Decidable p] (hs : s.ResultSound) (ht : t.ResultSound) :
    (if p then s else t).ResultSound := by
  by_cases hp : p
  · rwa [if_pos hp]
  · rwa [if_neg hp]

theorem State.ReturnsZero.finish : (s.finish op 0 back).ReturnsZero := by
  cases back with
  | nil => exact fun _ => ⟨rfl, rfl⟩
  | cons l rest => nofun

theorem State.ReturnsZero.ite {p : Prop} [Decidable p] (hs : s.ReturnsZero) (ht : t.ReturnsZero) :
    (if p then s else t).ReturnsZero := by
  by_cases hp : p
  · rwa [if_pos hp]
  · rwa [if_neg hp]

/-- A step that is no read ends with 0 or goes on. -/
theorem State.atomic_returnsZero (hn : next.reads = false) (h : s.atomic op r next back = .next t) : t.ReturnsZero := by
  cases next with
  | w2 d =>
    obtain ⟨-, e⟩ | ⟨-, e⟩ := stepW2_cases op d back s <;> cases e.symm.trans h
    exact .finish
  | setrxS1 _ | settxS1 _ | imaskS1 _ | d3 | f5 | dataDone => cases h; exact .finish
  | w1 _ => cases h; exact .ite nofun nofun
  | f1 _ => cases h; exact .ite .finish nofun
  | f3 => cases h; exact .ite nofun (.ite nofun nofun)
  | dataStart _ | dataLoop _ => cases h; exact .ite nofun .finish
  | d1 | d2 | s1 | s2 | s3 | s4 _ | s5 _ | f2 | f4 | u1 _ | v1 _ | v2 _ | e1 | e2 => cases h; nofun
  | _ => contradiction

theorem State.ReturnsZero.resultSound (h : t.ReturnsZero) : t.ResultSound := by
  intro hidle
  obtain ⟨hres, hcause⟩ := h hidle
  rw [hres, hcause]
  decide

theorem storedCount_le (l cap : Half) : (storedCount l cap).toNat ≤ l.toNat := by
  unfold storedCount
  split <;> omega

/-- What an atomic step that ends the operation reports: only P3 and T3 return a count. -/
theorem State.atomic_resultSound (hl : next.usesParams = true → s.l.toNat ≤ 255)
    (h : s.atomic op r next back = .next t) : t.ResultSound := by
  cases next with
  | b9 =>
    obtain ⟨v, -, e⟩ | ⟨-, e⟩ := stepB9_cases op back s <;> cases e.symm.trans h
    exact .finish (byteResult_le v)
  | p3 | t3 => cases h; exact .finish ((storedCount_le _ _).trans (hl rfl))
  | a4 | q4r => cases h; exact .finish (Nat.zero_le _)
  | a1 | a3 | b2 | b8v | q2 => cases h; exact .ite nofun (.fail _)
  | b1 => cases h; exact .ite nofun nofun
  | b7 => cases h; exact .ite nofun (.ite (.fail _) nofun)
  | p2 => cases h; exact .ite nofun (.finish (Nat.zero_le _))
  | a2 | b3 | b4 | b5 | b6 | b8 | b8r | p1 _ | p1r _ | p2r | q1 | q3 | q3r | q4 | t2 => cases h; nofun
  | _ => exact (State.atomic_returnsZero rfl h).resultSound

end Results

/-- Every operation starts with labels that take L and CAP before they use them. -/
theorem exec_takes_before_use (i : Instr) (s : State) : i = .reserved0 ∨
    ∃ first back, exec i s = s.perform i first back ∧ takenBeforeUse (first :: back) = true := by
  cases i with
  | reserved0 => exact .inl rfl
  | setrx _ | settx _ | imask _ => exact .inr ⟨_, _, rfl, rfl⟩
  | rxacc | rdb | rxdone | rdp _ | rdp16 | rds _ => exact .inr ⟨_, _, rfl, rfl⟩
  | rstart _ _ | wrb _ | wrp _ | wrp16 _ | rend | flush _ => exact .inr ⟨_, _, rfl, rfl⟩

theorem exec_resultSound {i : Instr} {s t : State} (hs : s.fg = .idle) (hr : s.noReset = true)
    (h : exec i s = .next t) : t.ResultSound := by
  obtain rfl | ⟨first, back, hperform, htaken⟩ := exec_takes_before_use i s
  · rw [exec_reserved0_of_idle hs] at h
    cases h
    exact .fail _
  rw [hperform] at h
  have hstart : (s.goTo i first back).ParamsWithin 65535 := by
    refine ⟨fun l _ => ?_, .inr htaken⟩
    cases l with
    | p1 cap | p1r cap => exact decide_eq_true (Nat.le_of_lt_succ cap.isLt)
    | _ => rfl
  refine (State.perform_keeps_calm (P := fun u => u.ParamsWithin 65535 ∧ u.ResultSound) ?_ ?_ hs hr
    ⟨hstart, nofun⟩ h).2
  · intro u ⟨hparams, hsound⟩ hturn
    refine ⟨hparams.environment hturn, ?_⟩
    obtain ⟨_, _, _, _, _, _, _, _, _, e⟩ := u.environment_frame hturn
    rw [e]
    exact hsound
  · intro u v op r next back ⟨hparams, _⟩ hfg ha
    exact ⟨hparams.atomic hfg ha, State.atomic_resultSound (fun hn => (hparams.of_uses hfg hn).1) ha⟩

/-- The operations that are no reads start and stay at labels that are none. -/
theorem exec_returnsZero {i : Instr} {s t : State} {first : Label} {back : List Label} (hs : s.fg = .idle)
    (hr : s.noReset = true) (hi : exec i s = s.perform i first back)
    (hfirst : (first :: back).all (fun l => !l.reads) = true) (h : exec i s = .next t) : t.ReturnsZero := by
  rw [hi] at h
  refine (State.perform_keeps_calm (P := fun u => (∀ l ∈ u.stack, (!l.reads) = true) ∧ u.ReturnsZero) ?_ ?_ hs hr
    ⟨List.all_eq_true.1 hfirst, nofun⟩ h).2
  · intro u ⟨hlabels, hzero⟩ hturn
    obtain ⟨_, _, _, _, _, _, _, _, _, e⟩ := u.environment_frame hturn
    rw [e]
    exact ⟨hlabels, hzero⟩
  · intro u v op r next back ⟨hlabels, _⟩ hfg ha
    refine ⟨State.atomic_stays_in Label.certain_closed hfg ha hlabels, State.atomic_returnsZero ?_ ha⟩
    rw [u.stack_of_running hfg] at hlabels
    simpa using (List.forall_mem_cons.1 hlabels).1

/-- Settles O51: every operation ends; a step that ends one reports soundly, and with 0 where no step is a read. -/
theorem resultsAreBytesCountsOrMinusOne : Obligations.ResultsAreBytesCountsOrMinusOne := by
  intro i s hs hr hp
  obtain ⟨t, ht, hidle⟩ := exec_finishes i hs hp
  obtain ⟨hminus, hbyte⟩ := exec_resultSound hs hr ht hidle
  refine ⟨t, ht, hidle, hminus, hbyte, fun ⟨h0, ha, hb, hq, hp, hd⟩ => ?_⟩
  cases i with
  | reserved0 | rxacc | rdb | rdp16 => contradiction
  | rdp cap => exact absurd rfl (hp cap)
  | rds cap => exact absurd rfl (hd cap)
  | setrx _ | settx _ | imask _ | rxdone | rstart _ _ | wrb _ | wrp _ | wrp16 _ | rend | flush _ =>
    exact exec_returnsZero hs hr rfl rfl ht hidle

end Sys2Proof.Machine
end

section
/-! The frames of the receive and of the transmit operations, under any schedule without a reset (spec 41; 42). -/

namespace Sys2Proof.Machine

open Sys2Proof

/-- What an operation shows unchanged: a view of the state that does not look at the sequencer, that no turn without a
reset changes, and that no step of a closed class of labels writes. -/
theorem exec_frame {α : Type} {view : State → α} {Q : Label → Bool} (hQ : Label.Closed Q)
    (hview : ∀ (s : State) f v c, view { s with fg := f, res := v, cause := c } = view s)
    (hturn : ∀ s : State, s.noResetInTurn = true → view s.environment = view s)
    (hwrites : ∀ (s : State) r (l : Label), Q l = true → view (s.writes r l) = view s)
    {i : Instr} {s t : State} {first : Label} {back : List Label} (hs : s.fg = .idle) (hr : s.noReset = true)
    (hi : exec i s = s.perform i first back) (hstack : (first :: back).all Q = true) (h : exec i s = .next t) :
    view t = view s := by
  rw [hi] at h
  refine (State.perform_keeps_calm (P := fun u => (∀ l ∈ u.stack, Q l = true) ∧ view u = view s) ?_ ?_ hs hr
    ⟨List.all_eq_true.1 hstack, hview s _ _ _⟩ h).2
  · intro u ⟨hlabels, hu⟩ hcalm
    exact ⟨State.environment_stack hcalm ▸ hlabels, (hturn u hcalm).trans hu⟩
  · intro u v op r next back ⟨hlabels, hu⟩ hfg ha
    refine ⟨State.atomic_stays_in hQ hfg ha hlabels, ?_⟩
    obtain ⟨_, _, _, e⟩ := State.atomic_writes ha
    rw [u.stack_of_running hfg] at hlabels
    rw [e, hview, hwrites u r next (List.forall_mem_cons.1 hlabels).1, hu]

/-! ## The classes of labels -/

/-- A step of a transmit operation, or of SETTX or IMASK. -/
def Label.transmits : Label → Bool
  | .settxS1 _ | .imaskS1 _ => true
  | .s1 | .s2 | .s3 | .s4 _ | .s5 _ | .w1 _ | .w2 _ => true
  | .f1 _ | .f2 | .f3 | .f4 | .f5 => true
  | .u1 _ | .v1 _ | .v2 _ | .dataStart _ | .dataLoop _ | .dataDone | .e1 | .e2 => true
  | _ => false

/-- The step of IMASK. -/
def Label.masks : Label → Bool
  | .imaskS1 _ => true
  | _ => false

/-- The one step of SETTX or IMASK. -/
def Label.sets : Label → Bool
  | .settxS1 _ | .imaskS1 _ => true
  | _ => false

theorem Label.transmits_closed : Label.Closed Label.transmits := by
  intro c d l
  cases l <;> rfl

theorem Label.receives_closed : Label.Closed fun l => !l.transmits := by
  intro c d l
  cases l <;> rfl

theorem Label.unmasked_closed : Label.Closed fun l => l.transmits && !l.masks := by
  intro c d l
  cases l <;> rfl

theorem Label.sets_closed : Label.Closed Label.sets := by
  intro c d l
  cases l <;> rfl

/-! ## The transmit side -/

/-- What a receive operation leaves: the transmit side, the suppress bit, the parameters, IN and the requests. -/
structure TransmitSide where
  txbuf : Chunk
  txpos : BitVec 5
  txout : List Byte
  txLog : List (List Byte)
  ackTimeouts : Nat
  ind : Byte
  irqOff : Bool
  cfg : Config
  freeCount : Nat
  reqs : List Request
  inBuf : List Byte

def State.transmitSide (s : State) : TransmitSide :=
  ⟨s.txbuf, s.txpos, s.txout, s.txLog, s.ackTimeouts, s.ind, s.irqOff, s.cfg, s.freeCount, s.reqs, s.inBuf⟩

theorem State.environment_transmitSide {s : State} (h : s.noResetInTurn = true) :
    s.environment.transmitSide = s.transmitSide := by
  obtain ⟨_, _, _, _, _, _, _, _, _, hturn⟩ := s.environment_frame h
  rw [hturn]
  rfl

theorem State.writes_transmitSide (s : State) (r : Half) (l : Label) (h : (!l.transmits) = true) :
    (s.writes r l).transmitSide = s.transmitSide := by
  cases l with
  | a3 | b8v => exact proj_ite rfl rfl
  | b7 => exact proj_ite rfl (proj_ite rfl (proj_ite rfl rfl))
  | p2r => exact (proj_ite rfl rfl : (s.storeClamped (resultByte r)).transmitSide = _)
  | settxS1 _ | imaskS1 _ | s1 | s2 | w2 _ | f1 _ | f2 | f3 | f4 | f5 | dataStart _ | dataLoop _ => contradiction
  | _ => rfl

/-! ## OUT -/

/-- The step may store into OUT only where this is granted: T2 the terminator, RDP16 its two bytes, P2r a data byte. -/
def Label.storesIf (terminator number datum : Bool) : Label → Bool
  | .t2 => terminator
  | .q1 | .q2 | .q3 | .q3r | .q4 | .q4r => number
  | .p1 _ | .p1r _ | .p2 | .p2r => datum
  | _ => true

theorem Label.storesIf_closed (terminator number datum : Bool) :
    Label.Closed (Label.storesIf terminator number datum) := by
  intro c d l
  cases terminator <;> cases number <;> cases datum <;> cases l <;> rfl

/-- No step that may be taken stores at the index `k`, CAP being at most `b`. -/
def Label.spares (b k : Nat) : Label → Bool :=
  Label.storesIf (decide (b < k)) (decide (2 ≤ k)) (decide (b ≤ k))

theorem storedCount_le_cap (l cap : Half) : (storedCount l cap).toNat ≤ cap.toNat := by
  unfold storedCount
  split <;> omega

theorem State.atomic_spares {b k : Nat} {s t : State} {op : Instr} {r : Half} {next : Label} {back : List Label}
    (hparams : s.ParamsWithin b) (hfg : s.fg = .running op r next back) (hspares : next.spares b k = true)
    (h : s.atomic op r next back = .next t) : t.out.read k = s.out.read k := by
  obtain ⟨_, _, _, rfl⟩ := State.atomic_writes h
  show (s.writes r next).out.read k = s.out.read k
  cases next with
  | p2r =>
    have hk : b ≤ k := of_decide_eq_true hspares
    have hcap := (hparams.of_uses hfg rfl).2
    show (s.storeClamped (resultByte r)).out.read k = _
    unfold State.storeClamped
    split
    · exact Memory.read_write_other _ _ _ _ (by omega)
    · rfl
  | q3r | q4r =>
    have hk : 2 ≤ k := of_decide_eq_true hspares
    exact Memory.read_write_other _ _ _ _ (by omega)
  | t2 =>
    have hk : b < k := of_decide_eq_true hspares
    have hcap := (hparams.of_uses hfg rfl).2
    have hcount := storedCount_le_cap s.l s.cap
    exact Memory.read_write_other _ _ _ _ (by omega)
  | a3 | b8v | dataStart _ | dataLoop _ => exact congrArg (Memory.read · k) (proj_ite (f := State.out) rfl rfl)
  | b7 | f3 =>
    exact congrArg (Memory.read · k) (proj_ite (f := State.out) rfl (proj_ite rfl (proj_ite (f := State.out) rfl rfl)))
  | _ => rfl

/-- An operation leaves the bytes of OUT that its labels spare. -/
theorem exec_spares {b k : Nat} {i : Instr} {s t : State} {first : Label} {back : List Label} (hs : s.fg = .idle)
    (hr : s.noReset = true) (hi : exec i s = s.perform i first back) (hcap : (first :: back).all (Label.capWithin b) = true)
    (htaken : takenBeforeUse (first :: back) = true) (hspares : (first :: back).all (Label.spares b k) = true)
    (h : exec i s = .next t) : t.out.read k = s.out.read k := by
  rw [hi] at h
  refine (State.perform_keeps_calm
    (P := fun u => u.ParamsWithin b ∧ (∀ l ∈ u.stack, l.spares b k = true) ∧ u.out.read k = s.out.read k) ?_ ?_ hs hr
    ⟨⟨List.all_eq_true.1 hcap, .inr htaken⟩, List.all_eq_true.1 hspares, rfl⟩ h).2.2
  · intro u ⟨hparams, hlabels, hu⟩ hturn
    exact ⟨hparams.environment hturn, State.environment_stack hturn ▸ hlabels, u.environment_out.symm ▸ hu⟩
  · intro u v op r next back ⟨hparams, hlabels, hu⟩ hfg ha
    have hnext := List.forall_mem_cons.1 (u.stack_of_running hfg ▸ hlabels)
    exact ⟨hparams.atomic hfg ha, State.atomic_stays_in (Label.storesIf_closed _ _ _) hfg ha hlabels,
      (State.atomic_spares hparams hfg hnext.1 ha).trans hu⟩

/-- An operation of receive steps that stores nothing. -/
theorem exec_leaves_transmitSide {i : Instr} {s t : State} {first : Label} {back : List Label} (hs : s.fg = .idle)
    (hr : s.noReset = true) (hi : exec i s = s.perform i first back)
    (hclass : (first :: back).all (fun l => !l.transmits) = true) (h : exec i s = .next t) :
    t.transmitSide = s.transmitSide :=
  exec_frame Label.receives_closed (fun _ _ _ _ => rfl) (fun _ => State.environment_transmitSide)
    State.writes_transmitSide hs hr hi hclass h

/-- The bytes of OUT at `k` are none that the operation stores: below CAP for RDP, up to CAP for RDS, the first two for
RDP16. -/
structure SparedBy (i : Instr) (k : Nat) : Prop where
  rdp : ∀ cap, i = .rdp cap → cap.toNat ≤ k
  rds : ∀ cap, i = .rds cap → cap.toNat < k
  rdp16 : i = .rdp16 → 2 ≤ k

theorem exec_receive_frame {i : Instr} {s t : State} (hs : s.fg = .idle) (hr : s.noReset = true)
    (h : exec i s = .next t)
    (hi : i = .rxacc ∨ i = .rdb ∨ i = .rxdone ∨ i = .rdp16 ∨ (∃ cap, i = .rdp cap) ∨ (∃ cap, i = .rds cap) ∨
      (∃ c, i = .setrx c) ∨ i = .reserved0) :
    t.transmitSide = s.transmitSide ∧ ∀ k, SparedBy i k → t.out.read k = s.out.read k := by
  obtain rfl | rfl | rfl | rfl | ⟨cap, rfl⟩ | ⟨cap, rfl⟩ | ⟨c, rfl⟩ | rfl := hi
  -- RXACC, RDB, RXDONE store nothing.
  · exact ⟨exec_leaves_transmitSide hs hr rfl rfl h, fun k _ => exec_spares (b := 0) hs hr rfl rfl rfl rfl h⟩
  · exact ⟨exec_leaves_transmitSide hs hr rfl rfl h, fun k _ => exec_spares (b := 0) hs hr rfl rfl rfl rfl h⟩
  · exact ⟨exec_leaves_transmitSide hs hr rfl rfl h, fun k _ => exec_spares (b := 0) hs hr rfl rfl rfl rfl h⟩
  -- RDP16
  · refine ⟨exec_leaves_transmitSide hs hr rfl rfl h, fun k hk => ?_⟩
    have hk := hk.rdp16 rfl
    exact exec_spares (b := 0) (first := .q1) (back := []) hs hr rfl rfl rfl (Bool.and_eq_true_iff.2 ⟨decide_eq_true hk, rfl⟩) h
  -- RDP
  · refine ⟨exec_leaves_transmitSide hs hr rfl rfl h, fun k hk => ?_⟩
    have hk := hk.rdp cap rfl
    exact exec_spares (b := cap.toNat) (first := .p1 cap) (back := [.p3]) hs hr rfl (Bool.and_eq_true_iff.2 ⟨decide_eq_true cap.toNat.le_refl, rfl⟩)
      rfl (Bool.and_eq_true_iff.2 ⟨decide_eq_true hk, rfl⟩) h
  -- RDS
  · refine ⟨exec_leaves_transmitSide hs hr rfl rfl h, fun k hk => ?_⟩
    have hk := hk.rds cap rfl
    exact exec_spares (b := cap.toNat) (first := .p1 cap) (back := [.t2]) hs hr rfl (Bool.and_eq_true_iff.2 ⟨decide_eq_true cap.toNat.le_refl, rfl⟩)
      rfl (Bool.and_eq_true_iff.2 ⟨decide_eq_true hk.le, Bool.and_eq_true_iff.2 ⟨decide_eq_true hk, rfl⟩⟩) h
  -- SETRX
  · exact ⟨exec_leaves_transmitSide hs hr rfl rfl h, fun k _ => exec_spares (b := 0) hs hr rfl rfl rfl rfl h⟩
  · rw [exec_reserved0_of_idle hs] at h
    cases h
    exact ⟨rfl, fun _ _ => rfl⟩

/-- Settles O52: the steps of these operations write nothing of the transmit side, and of OUT only what they store. -/
theorem receiveOperationsLeaveTheTransmitSide : Obligations.ReceiveOperationsLeaveTheTransmitSide := by
  intro i s t hs hr h hi
  obtain ⟨hside, hout⟩ := exec_receive_frame hs hr h hi
  simp only [State.transmitSide, TransmitSide.mk.injEq] at hside
  obtain ⟨htxbuf, htxpos, htxout, htxLog, hack, hind, hirq, hcfg, hfree, hreqs, hin⟩ := hside
  exact ⟨htxpos, htxout, htxLog, hack, hind, hirq, hcfg, hfree, hreqs,
    fun k => congrArg (·[k]?) htxbuf, fun k => congrArg (·[k]?) hin,
    fun k hrdp hrds hrdp16 => hout k ⟨hrdp, hrds, hrdp16⟩⟩

/-! ## The receive side -/

/-- What a transmit operation leaves: the working buffer and its cursor, L and CAP, the parameters, OUT, IN and the
requests. -/
structure ReceiveSide where
  rxbuf : Chunk
  rxpos : BitVec 6
  l : Half
  cap : Half
  cfg : Config
  reqs : List Request
  out : Memory
  inBuf : List Byte

def State.receiveSide (s : State) : ReceiveSide :=
  ⟨s.rxbuf, s.rxpos, s.l, s.cap, s.cfg, s.reqs, s.out, s.inBuf⟩

theorem State.environment_receiveSide {s : State} (h : s.noResetInTurn = true) :
    s.environment.receiveSide = s.receiveSide := by
  obtain ⟨_, _, _, _, _, _, _, _, _, hturn⟩ := s.environment_frame h
  rw [hturn]
  rfl

theorem State.writes_receiveSide (s : State) (r : Half) (l : Label) (h : l.transmits = true) :
    (s.writes r l).receiveSide = s.receiveSide := by
  cases l with
  | f3 => exact proj_ite rfl (proj_ite rfl (proj_ite rfl rfl))
  | dataStart _ | dataLoop _ => exact proj_ite rfl rfl
  | settxS1 _ | imaskS1 _ | s1 | s2 | s3 | s4 _ | s5 _ | w1 _ | w2 _ | f1 _ | f2 | f4 | f5 | u1 _ | v1 _ | v2 _
  | dataDone | e1 | e2 => rfl
  | _ => contradiction

theorem State.environment_irqOff {s : State} (h : s.noResetInTurn = true) : s.environment.irqOff = s.irqOff := by
  obtain ⟨_, _, _, _, _, _, _, _, _, hturn⟩ := s.environment_frame h
  rw [hturn]

theorem State.writes_irqOff (s : State) (r : Half) (l : Label) (h : (l.transmits && !l.masks) = true) :
    (s.writes r l).irqOff = s.irqOff := by
  cases l with
  | f3 => exact proj_ite rfl (proj_ite rfl (proj_ite rfl rfl))
  | dataStart _ | dataLoop _ => exact proj_ite rfl rfl
  | settxS1 _ | s1 | s2 | s3 | s4 _ | s5 _ | w1 _ | w2 _ | f1 _ | f2 | f4 | f5 | u1 _ | v1 _ | v2 _
  | dataDone | e1 | e2 => rfl
  | _ => contradiction

/-- The reply in composition and the last hand-off. -/
def State.composed (s : State) : Chunk × BitVec 5 × List Byte := (s.txbuf, s.txpos, s.txout)

theorem State.environment_composed {s : State} (h : s.noResetInTurn = true) : s.environment.composed = s.composed := by
  obtain ⟨_, _, _, _, _, _, _, _, _, hturn⟩ := s.environment_frame h
  rw [hturn]
  rfl

theorem State.writes_composed (s : State) (r : Half) (l : Label) (h : l.sets = true) :
    (s.writes r l).composed = s.composed := by
  cases l with
  | settxS1 _ | imaskS1 _ => rfl
  | _ => contradiction

section TransmitFrame

variable {i : Instr} {s t : State} {first : Label} {back : List Label} (hs : s.fg = .idle) (hr : s.noReset = true)
  (hi : exec i s = s.perform i first back) (h : exec i s = .next t)

include hs hr hi h

theorem exec_leaves_receiveSide (hclass : (first :: back).all Label.transmits = true) :
    t.receiveSide = s.receiveSide :=
  exec_frame Label.transmits_closed (fun _ _ _ _ => rfl) (fun _ => State.environment_receiveSide)
    State.writes_receiveSide hs hr hi hclass h

theorem exec_leaves_irqOff (hclass : (first :: back).all (fun l => l.transmits && !l.masks) = true) :
    t.irqOff = s.irqOff :=
  exec_frame Label.unmasked_closed (fun _ _ _ _ => rfl) (fun _ => State.environment_irqOff) State.writes_irqOff hs hr
    hi hclass h

theorem exec_leaves_composed (hclass : (first :: back).all Label.sets = true) : t.composed = s.composed :=
  exec_frame Label.sets_closed (fun _ _ _ _ => rfl) (fun _ => State.environment_composed) State.writes_composed hs hr
    hi hclass h

end TransmitFrame

theorem exec_transmit_frame {i : Instr} {s t : State} (hs : s.fg = .idle) (hr : s.noReset = true)
    (h : exec i s = .next t)
    (hi : i = .rend ∨ (∃ cmd n, i = .rstart cmd n) ∨ (∃ d, i = .wrb d) ∨ (∃ len, i = .wrp len) ∨
      (∃ len, i = .wrp16 len) ∨ (∃ ind, i = .flush ind) ∨ (∃ c, i = .settx c) ∨ (∃ m, i = .imask m)) :
    t.receiveSide = s.receiveSide ∧ ((∀ m, i ≠ .imask m) → t.irqOff = s.irqOff) := by
  obtain rfl | ⟨cmd, n, rfl⟩ | ⟨d, rfl⟩ | ⟨len, rfl⟩ | ⟨len, rfl⟩ | ⟨ind, rfl⟩ | ⟨c, rfl⟩ | ⟨m, rfl⟩ := hi
  case inr.inr.inr.inr.inr.inr.inr =>
    exact ⟨exec_leaves_receiveSide hs hr rfl h rfl, fun hne => absurd rfl (hne m)⟩
  all_goals exact ⟨exec_leaves_receiveSide hs hr rfl h rfl, fun _ => exec_leaves_irqOff hs hr rfl h rfl⟩

/-- Settles O53: the steps of these operations write nothing of the receive side; only IMASK's writes IRQ_OFF, and
neither SETTX's nor IMASK's writes TXBUF, its cursor or TXOUT. -/
theorem transmitOperationsLeaveTheReceiveSide : Obligations.TransmitOperationsLeaveTheReceiveSide := by
  intro i s t hs hr h hi
  obtain ⟨hside, hirq⟩ := exec_transmit_frame hs hr h hi
  simp only [State.receiveSide, ReceiveSide.mk.injEq] at hside
  obtain ⟨hrxbuf, hrxpos, hl, hcap, hcfg, hreqs, hout, hin⟩ := hside
  refine ⟨hrxpos, hl, hcap, hcfg, hreqs, fun k => congrArg (·[k]?) hrxbuf, fun k => congrArg (Memory.read · k) hout,
    fun k => congrArg (·[k]?) hin, hirq, fun hset => ?_⟩
  have hcomposed : t.composed = s.composed := by
    obtain ⟨c, rfl⟩ | ⟨m, rfl⟩ := hset
    · exact exec_leaves_composed hs hr rfl h rfl
    · exact exec_leaves_composed hs hr rfl h rfl
  simp only [State.composed, Prod.mk.injEq] at hcomposed
  obtain ⟨htxbuf, htxpos, htxout⟩ := hcomposed
  exact ⟨fun k => congrArg (·[k]?) htxbuf, htxpos, htxout⟩

end Sys2Proof.Machine
end

section
/-! Decoding and encoding agree (spec 30 R70 to R73, R77). -/

namespace Sys2Proof

/-! ## The bits of the operand field -/

/-- The low bits of an operand that fills the rest of the field with zeros are the operand. -/
theorem extractLsb'_setWidth {n : Nat} (h : n ≤ 16) (x : BitVec n) : (x.setWidth 16).extractLsb' 0 n = x := by
  apply BitVec.eq_of_getLsbD_eq
  intro i hi
  simp only [BitVec.getLsbD_extractLsb', BitVec.getLsbD_setWidth, hi, Nat.zero_add, decide_true, Bool.true_and]
  simp [show i < 16 by omega]

/-- The low bits of the field, the others cleared, are the field under their mask. -/
theorem setWidth_extractLsb' (n : Nat) (arg : Half) :
    (arg.extractLsb' 0 n).setWidth 16 = arg &&& BitVec.ofNat 16 (2 ^ n - 1) := by
  apply BitVec.eq_of_getLsbD_eq
  intro i hi
  simp only [BitVec.getLsbD_setWidth, BitVec.getLsbD_extractLsb', BitVec.getLsbD_and, BitVec.getLsbD_ofNat,
    Nat.testBit_two_pow_sub_one, hi, Nat.zero_add, decide_true, Bool.true_and]
  rw [Bool.and_comm]

theorem argHigh_append (cmd n : Byte) : argHigh (cmd ++ n) = cmd := by
  apply BitVec.eq_of_getLsbD_eq
  intro i hi
  have h : ¬ 8 + i < 8 := by omega
  have e : 8 + i - 8 = i := by omega
  simp only [argHigh, BitVec.getLsbD_extractLsb', BitVec.getLsbD_append, h, e, hi, decide_true, Bool.true_and,
    if_false]

theorem argLow_append (cmd n : Byte) : argLow (cmd ++ n) = n := by
  apply BitVec.eq_of_getLsbD_eq
  intro i hi
  simp only [argLow, BitVec.getLsbD_extractLsb', BitVec.getLsbD_append, Nat.zero_add, hi, decide_true, Bool.true_and,
    if_true]

theorem append_argHigh_argLow (arg : Half) : argHigh arg ++ argLow arg = arg := by
  apply BitVec.eq_of_getLsbD_eq
  intro i hi
  simp only [argHigh, argLow, BitVec.getLsbD_append, BitVec.getLsbD_extractLsb']
  by_cases h : i < 8
  · simp [h]
  · have hin : 8 + (i - 8) = i := by omega
    have hlt : i - 8 < 8 := by omega
    simp [h, hin, hlt]

/-! ## Decode after encode -/

theorem decodeFields_encode (i : Instr) : decodeFields (opcode i) (operandField i) = i := by
  cases i with
  | setrx s => exact congrArg Instr.setrx (extractLsb'_setWidth (by decide) s)
  | settx s => exact congrArg Instr.settx (extractLsb'_setWidth (by decide) s)
  | rstart cmd n => exact congrArg₂ Instr.rstart (argHigh_append cmd n) (argLow_append cmd n)
  | wrb d => exact congrArg Instr.wrb (extractLsb'_setWidth (by decide) d)
  | wrp len => exact congrArg Instr.wrp (extractLsb'_setWidth (by decide) len)
  | flush ind => exact congrArg Instr.flush (extractLsb'_setWidth (by decide) ind)
  | imask m => exact congrArg Instr.imask (extractLsb'_setWidth (by decide) m)
  | reserved0 | rxacc | rdb | rxdone | rdp _ | rdp16 | rds _ | wrp16 _ | rend => rfl

theorem decode_encode (i : Instr) : decode (encode i) = i :=
  (decode_append _ _).trans (decodeFields_encode i)

theorem decodeNat_toNat (w : RequestWord) : decodeNat w.toNat = .ok (decode w) := by
  rw [decodeNat, if_pos w.isLt, BitVec.ofNat_toNat, BitVec.setWidth_eq]

/-- Settles O3: a word decodes as its two fields, and each operand is cut out of the field it was put into. -/
theorem decodeUndoesEncode : Obligations.DecodeUndoesEncode := by
  intro i _
  have hnat : decodeNat (encode i).toNat = .ok i := by rw [decodeNat_toNat, decode_encode]
  exact ⟨decode_encode i, hnat, by rw [decodeTableWord, hnat]⟩

/-! ## Encode after decode -/

/-- The operand field of what a code and a field decode to: the field without the bits that the code does not use. -/
theorem operandField_decodeFields (op : BitVec 4) (arg : Half) :
    opcode (decodeFields op arg) = op ∧ operandField (decodeFields op arg) = arg &&& usedBits op := by
  obtain ⟨k, hk⟩ : ∃ k : Fin 16, op = BitVec.ofFin k := ⟨op.toFin, rfl⟩
  subst hk
  have hall : arg = arg &&& 0xFFFF#16 := (BitVec.and_allOnes).symm
  have hnone : (0 : Half) = arg &&& 0x0000#16 := (BitVec.and_zero).symm
  match k with
  | ⟨0, _⟩ | ⟨3, _⟩ | ⟨4, _⟩ | ⟨5, _⟩ | ⟨7, _⟩ | ⟨13, _⟩ => exact ⟨rfl, hnone⟩
  | ⟨1, _⟩ | ⟨2, _⟩ => exact ⟨rfl, setWidth_extractLsb' 4 arg⟩
  | ⟨6, _⟩ | ⟨8, _⟩ | ⟨12, _⟩ => exact ⟨rfl, hall⟩
  | ⟨9, _⟩ => exact ⟨rfl, (append_argHigh_argLow arg).trans hall⟩
  | ⟨10, _⟩ | ⟨11, _⟩ | ⟨14, _⟩ => exact ⟨rfl, setWidth_extractLsb' 8 arg⟩
  | ⟨15, _⟩ => exact ⟨rfl, setWidth_extractLsb' 1 arg⟩
  | ⟨n + 16, h⟩ => exact absurd h (by omega)

theorem encode_decode (w : RequestWord) : encode (decode w) = opField w ++ (argField w &&& usedBits (opField w)) := by
  obtain ⟨hop, harg⟩ := operandField_decodeFields (opField w) (argField w)
  rw [encode, decode, hop, harg]

/-- Settles O4: the second clause is the first for both words, decoded again. -/
theorem encodeClearsOnlyUnusedBits : Obligations.EncodeClearsOnlyUnusedBits := by
  refine ⟨encode_decode, fun w w' hop harg => ?_⟩
  have hencode : encode (decode w) = encode (decode w') := by rw [encode_decode, encode_decode, harg, hop]
  rw [← decode_encode (decode w), hencode, decode_encode]

/-- Settles O2: closed words, decoded by computation. -/
theorem writtenRequestWordsDecode : Obligations.WrittenRequestWordsDecode := by
  unfold Obligations.WrittenRequestWordsDecode
  decide

end Sys2Proof
end

section
/-! The step with the sequencer idle and with it busy, and the poll of a wait (spec 00 R5; 30 R70; 60 R164, R172). -/

namespace Sys2Proof.Machine

open Sys2Proof

/-! ## The sequencer idle -/

/-- Settles O5. -/
theorem stepRunsThePresentedRequest : Obligations.StepRunsThePresentedRequest := by
  rintro s q rest i hs hq hdue rfl -
  exact step_of_due_request hs hq hdue

/-- With a pause in the next turn, an accepted operation stands at its first label after the turn. -/
theorem exec_paused {i : Instr} {s : State} (hi : i ≠ .reserved0) (hs : s.fg = .idle) (hp : s.pauseDue = true)
    (hr : s.noResetInTurn = true) :
    ∃ next back, exec i s = .next { s.environment with fg := .running i 0 next back } := by
  obtain rfl | ⟨first, back, hperform, -, -⟩ := exec_eq_perform i s
  · contradiction
  · refine ⟨first, back, ?_⟩
    rw [hperform, s.perform_paused _ _ _ hs hp, State.environment_goTo hr]
    rfl

/-- Settles O7: by the three kinds of an idle step. -/
theorem idleStepIsATurnOfTheEnvironment : Obligations.IdleStepIsATurnOfTheEnvironment := by
  refine fun s hs => ⟨step_of_no_request hs, fun q rest n hq hn => ?_, fun q rest hq hdue hi hp hr => ?_⟩
  · rw [step_of_waiting_request hs hq (by omega), hn, Nat.add_sub_cancel]
  · rw [step_of_due_request hs hq hdue]
    exact exec_paused hi hs hp hr

/-! ## The sequencer busy -/

theorem exec_busy {s : State} {op : Instr} {r : Half} {next : Label} {back : List Label}
    (hs : s.fg = .running op r next back) (i : Instr) : exec i s = .next s := by
  obtain rfl | ⟨first, back', hperform, -, -⟩ := exec_eq_perform i s
  · simp only [exec, execReserved0, hs]
  · rw [hperform, s.perform_busy _ _ _ _ _ _ _ hs]

/-- A turn of one move, nothing held back. -/
theorem State.environment_single {s : State} {m : Move} {p : Bool} {rest : List Turn} (hh : s.held = [])
    (he : s.env = ⟨[m], p⟩ :: rest) : s.environment = ({ s with env := rest } : State).applyMove m := by
  simp [State.environment, State.turnMoves, hh, he]

/-- A turn of no move, nothing held back. -/
theorem State.environment_empty {s : State} {p : Bool} {rest : List Turn} (hh : s.held = [])
    (he : s.env = ⟨[], p⟩ :: rest) : s.environment = { s with env := rest } := by
  simp [State.environment, State.turnMoves, hh, he]

/-- With a pause in the next turn, a step that goes on with an operation is that turn alone. -/
theorem step_paused {s : State} {op : Instr} {r : Half} {next : Label} {back : List Label}
    (hs : s.fg = .running op r next back) (hp : s.pauseDue = true) : step s = .next s.environment := by
  have hbudget : s.budget = 1048575 + s.env.length + 1 := by rw [State.budget]; omega
  rw [step_of_running hs, hbudget, s.runOn_paused _ hp]

/-! ## An atomic step does not see the turns that are still to come, but for whether there are any -/

/-- The answer with another schedule. -/
def AnswersWithEnv (env : List Turn) (x : Host.Outcome State Fault Refusal) (t : State) : Prop :=
  x = .next { t with env := env }

theorem AnswersWithEnv.ite {env : List Turn} {p : Prop} [Decidable p] {t t' u u' : State}
    (ht : AnswersWithEnv env (.next t) u) (ht' : AnswersWithEnv env (.next t') u') :
    AnswersWithEnv env (.next (if p then t else t')) (if p then u else u') := by
  by_cases hp : p
  · rwa [if_pos hp, if_pos hp]
  · rwa [if_neg hp, if_neg hp]

theorem AnswersWithEnv.finish {env : List Turn} {t u : State} (op : Instr) (v : Half) (back : List Label)
    (h : AnswersWithEnv env (.next t) u) :
    AnswersWithEnv env (.next (t.finish op v back)) (u.finish op v back) := by
  cases h
  cases back <;> rfl

theorem State.storeClamped_setEnv (s : State) (b : Byte) (env : List Turn) :
    ({ s with env := env } : State).storeClamped b = { s.storeClamped b with env := env } := by
  unfold State.storeClamped
  split <;> rfl

theorem State.atomic_setEnv {s t : State} {op : Instr} {r : Half} {next : Label} {back : List Label}
    {env : List Turn} (hs : s.env ≠ []) (henv : env ≠ []) (h : s.atomic op r next back = .next t) :
    AnswersWithEnv env (({ s with env := env } : State).atomic op r next back) t := by
  cases next with
  | b9 =>
    obtain ⟨v, hv, e⟩ | ⟨-, e⟩ := stepB9_cases op back s <;> cases e.symm.trans h
    simp only [State.atomic, stepB9, hv]
    exact .finish _ _ _ rfl
  | w2 d =>
    obtain ⟨hroom, e⟩ | ⟨-, e⟩ := stepW2_cases op d back s <;> cases e.symm.trans h
    rw [State.atomic, stepW2, if_pos (by simp only; omega)]
    exact .finish _ _ _ rfl
  | b7 | f3 =>
    cases h
    refine .ite rfl (.ite rfl ?_)
    rw [s.stay_scheduled _ hs, State.stay_scheduled { s with env := env } _ henv]
    exact rfl
  -- The step ends the operation or the primitive.
  | setrxS1 _ | settxS1 _ | imaskS1 _ | a4 | d3 | p3 | q4r | t3 | f5 | dataDone => cases h; exact .finish _ _ _ rfl
  -- The step tests a condition.
  | a1 | a3 | b1 | b2 | b8v | q2 | w1 _ => cases h; exact .ite rfl rfl
  | p2 | dataStart _ | dataLoop _ => cases h; exact .ite rfl (.finish _ _ _ rfl)
  | f1 _ => cases h; exact .ite (.finish _ _ _ rfl) rfl
  | p2r =>
    cases h
    rw [State.atomic, stepP2r, State.storeClamped_setEnv]
    exact rfl
  -- The step only goes on.
  | _ => cases h; exact rfl

/-- An empty turn and then an empty pause let exactly one atomic step be seen. -/
theorem step_single {s t : State} {op : Instr} {r : Half} {next : Label} {back : List Label} {rest : List Turn}
    (hs : s.fg = .running op r next back) (hh : s.held = []) (he : s.env = ⟨[], false⟩ :: ⟨[], true⟩ :: rest)
    (h : s.foreground = .next t) (ht : t.fg ≠ .idle) : step s = .next { t with env := rest } := by
  rw [s.foreground_running _ _ _ _ hs] at h
  have hheld : t.held = [] := (congrArg Outside.held (State.atomic_outside h)).trans hh
  have hadvance : s.advance = .next { t with env := ⟨[], true⟩ :: rest } := by
    rw [State.advance_turn (State.pauseDue_cons he) (State.environment_empty hh he) hs]
    exact State.atomic_setEnv (by rw [he]; exact List.cons_ne_nil _ _) (List.cons_ne_nil _ _) h
  have hreach : Reaches 1 s { t with env := ⟨[], true⟩ :: rest } :=
    .one (State.pauseDue_cons he) hadvance (Bool.eq_false_iff.2 (mt (State.idle_iff _).1 ht))
  have hbudget : s.budget = 1 + (1048574 + s.env.length + 1) := by rw [State.budget]; omega
  rw [step_of_running hs, hbudget, State.runOn_reaches hreach, State.runOn_paused _ _ rfl]
  exact congrArg Host.Outcome.next (State.environment_empty (s := { t with env := ⟨[], true⟩ :: rest }) hheld rfl)

/-- Settles O6. -/
theorem busySequencerAcceptsNoRequest : Obligations.BusySequencerAcceptsNoRequest := by
  intro s op r next back hs
  refine ⟨exec_busy hs, step_of_running hs, step_paused hs, fun m rest hh he => ?_, fun t rest hh he h ht => ?_⟩
  · rw [step_paused hs (by simp [State.pauseDue, he]), State.environment_single hh he]
  · exact step_single hs hh he h ht

/-! ## The polls (60 R172) -/

theorem State.stay_goTo (s : State) (timeout : Millis) (op : Instr) (next : Label) (back : List Label) :
    (s.stay timeout).goTo op next back =
      { s with fg := .running op 0 next back, now := if s.env = [] then s.t0 + timeout else s.now } := by
  by_cases he : s.env = []
  · rw [s.stay_exhausted _ he, if_pos he]
    rfl
  · rw [s.stay_scheduled _ he, if_neg he]
    rfl

/-- Settles O25: the two polls test the flag, then the deadline. -/
theorem pollTestsTheFlagBeforeTheDeadline : Obligations.PollTestsTheFlagBeforeTheDeadline := by
  intro s op r back
  refine ⟨fun hs => ?_, fun hs => ?_⟩
  · rw [s.foreground_running _ _ _ _ hs, State.atomic, stepB7, State.stay_goTo]
    simp only [expired, decide_eq_true_eq]
    rfl
  · rw [s.foreground_running _ _ _ _ hs, State.atomic, stepF3, State.stay_goTo]
    simp only [expired, decide_eq_true_eq]
    rfl

end Sys2Proof.Machine
end

section
/-! The notifications, and what suppression does to them (spec 40 R95; 60 R161 to R165). -/

namespace Sys2Proof.Machine

open Sys2Proof

/-- Settles O47: an idle step without a request is a turn, and a turn of one move is that move. -/
theorem notificationsDoTheirHandlersWrites : Obligations.NotificationsDoTheirHandlersWrites := by
  intro s p rest hs hq hh hirq
  refine ⟨fun c ref he => ?_, fun he => ?_⟩
  · rw [step_of_no_request hs hq, State.environment_single hh he]
    exact congrArg Host.Outcome.next (if_neg (by simp [hirq]))
  · rw [step_of_no_request hs hq, State.environment_single hh he]
    exact congrArg Host.Outcome.next (if_neg (by simp [hirq]))

/-- Settles O49: the two handlers write different registers. -/
theorem notificationsCommute : Obligations.NotificationsCommute := by
  intro s c ref hirq
  simp [State.applyMove, hirq, State.chunkReceived, State.chunkConsumed]

/-! ## Under suppression -/

/-- The moves that suppression holds back. -/
theorem State.applyMoves_suppressed (ms : List Move) {s : State} (hirq : s.irqOff = true)
    (hms : ms.all Move.notReset = true) :
    ∃ nw, ms.foldl State.applyMove s = { s with now := nw, held := s.held ++ ms.filter Move.notifies } := by
  induction ms generalizing s with
  | nil => exact ⟨s.now, by rw [List.filter_nil, List.append_nil]; rfl⟩
  | cons m ms ih =>
    obtain ⟨hm, hrest⟩ := Bool.and_eq_true_iff.1 hms
    cases m with
    | rx c ref =>
      obtain ⟨nw, h⟩ := ih (s := { s with held := s.held ++ [.rx c ref] }) hirq hrest
      refine ⟨nw, ?_⟩
      rw [List.foldl_cons, State.applyMove, if_pos hirq, h, List.append_assoc]
      rfl
    | tx =>
      obtain ⟨nw, h⟩ := ih (s := { s with held := s.held ++ [.tx] }) hirq hrest
      refine ⟨nw, ?_⟩
      rw [List.foldl_cons, State.applyMove, if_pos hirq, h, List.append_assoc]
      rfl
    | tick m => exact ih (s := { s with now := s.now + m }) hirq hrest
    | rst => contradiction

/-- A turn under suppression. -/
theorem State.environment_suppressed {s : State} (hirq : s.irqOff = true) (hr : s.noResetInTurn = true) :
    ∃ nw, s.environment = { s with
      now := nw, env := s.env.tail, held := (s.held ++ s.turnMoves).filter Move.notifies } :=
  State.applyMoves_suppressed _ (s := { s with held := [], env := s.env.tail }) hirq hr

/-! ## Without suppression -/

/-- Everything that an unsuppressed turn without a reset takes happens. -/
theorem State.applyMoves_held (ms : List Move) {s : State} (hirq : s.irqOff = false)
    (hms : ms.all Move.notReset = true) :
    (ms.foldl State.applyMove s).irqOff = false ∧ (ms.foldl State.applyMove s).held = s.held := by
  induction ms generalizing s with
  | nil => exact ⟨hirq, rfl⟩
  | cons m ms ih =>
    obtain ⟨hm, hrest⟩ := Bool.and_eq_true_iff.1 hms
    have hstep : (s.applyMove m).irqOff = false ∧ (s.applyMove m).held = s.held := by
      obtain ⟨_, -, e⟩ | ⟨hon, -⟩ | ⟨-, _, _, -, e⟩ | ⟨-, -, e⟩ := s.applyMove_cases m hm
      · exact e ▸ ⟨hirq, rfl⟩
      · exact absurd hon (by simp [hirq])
      · exact e ▸ ⟨hirq, rfl⟩
      · exact e ▸ ⟨hirq, rfl⟩
    obtain ⟨hoff, hheld⟩ := ih hstep.1 hrest
    exact ⟨hoff, hheld.trans hstep.2⟩

/-- What `ev_rx` writes. -/
def State.reception (s : State) : Chunk × Nat × Bool × BitVec 4 := (s.xbuf, s.rxref, s.dataReceived, s.rxstate)

/-- What `ev_tx` writes. -/
def State.consumption (s : State) : Bool × BitVec 4 := (s.dataSent, s.txstate)

theorem State.applyMoves_reception (ms : List Move) {s : State} (hms : ms.all Move.notReset = true)
    (hrx : ∀ c ref, Move.rx c ref ∉ ms) : (ms.foldl State.applyMove s).reception = s.reception := by
  induction ms generalizing s with
  | nil => rfl
  | cons m ms ih =>
    obtain ⟨hm, hrest⟩ := Bool.and_eq_true_iff.1 hms
    refine (ih hrest fun c ref h => hrx c ref (.tail _ h)).trans ?_
    obtain ⟨_, -, e⟩ | ⟨-, e⟩ | ⟨-, c, ref, rfl, -⟩ | ⟨-, -, e⟩ := s.applyMove_cases m hm
    · rw [e]; rfl
    · rw [e]; rfl
    · exact absurd (.head _) (hrx c ref)
    · rw [e]; rfl

theorem State.applyMoves_consumption (ms : List Move) {s : State} (hms : ms.all Move.notReset = true)
    (htx : Move.tx ∉ ms) : (ms.foldl State.applyMove s).consumption = s.consumption := by
  induction ms generalizing s with
  | nil => rfl
  | cons m ms ih =>
    obtain ⟨hm, hrest⟩ := Bool.and_eq_true_iff.1 hms
    refine (ih hrest fun h => htx (.tail _ h)).trans ?_
    obtain ⟨_, -, e⟩ | ⟨-, e⟩ | ⟨-, c, ref, -, e⟩ | ⟨-, rfl, -⟩ := s.applyMove_cases m hm
    · rw [e]; rfl
    · rw [e]; rfl
    · rw [e]; rfl
    · exact absurd (.head _) htx

/-- A chunk consumed stays consumed: no move but a reset takes it back. -/
theorem State.applyMoves_txIdle (ms : List Move) {s : State} (hms : ms.all Move.notReset = true) (h : s.txIdle) :
    (ms.foldl State.applyMove s).txIdle := by
  induction ms generalizing s with
  | nil => exact h
  | cons m ms ih =>
    obtain ⟨hm, hrest⟩ := Bool.and_eq_true_iff.1 hms
    refine ih hrest ?_
    obtain ⟨_, -, e⟩ | ⟨-, e⟩ | ⟨-, c, ref, -, e⟩ | ⟨-, -, e⟩ := s.applyMove_cases m hm <;> rw [e]
    · exact h
    · exact h
    · exact h
    · exact ⟨rfl, rfl⟩

/-- The last of the deliveries among the moves is the one that stays. -/
theorem State.applyMoves_last_rx {before after : List Move} {c : Chunk} {ref : Nat} {s : State}
    (hirq : s.irqOff = false) (hms : (before ++ Move.rx c ref :: after).all Move.notReset = true)
    (hlast : ∀ c' ref', Move.rx c' ref' ∉ after) :
    ((before ++ Move.rx c ref :: after).foldl State.applyMove s).reception =
      (c, ref % 2 ^ s.cfg.refW, true, s.cfg.rxBusy) := by
  simp only [List.all_append, List.all_cons, Bool.and_eq_true] at hms
  obtain ⟨hbefore, -, hafter⟩ := hms
  obtain ⟨hoff, -⟩ := State.applyMoves_held before hirq hbefore
  obtain ⟨-, hcfg, -⟩ := State.applyMoves_keeps before s
  rw [List.foldl_append, List.foldl_cons, State.applyMoves_reception after hafter hlast, State.applyMove,
    if_neg (by simp [hoff]), ← hcfg]
  rfl

theorem State.applyMoves_tx {ms : List Move} {s : State} (hirq : s.irqOff = false) (hms : ms.all Move.notReset = true)
    (htx : Move.tx ∈ ms) : (ms.foldl State.applyMove s).txIdle := by
  obtain ⟨before, after, rfl⟩ := List.append_of_mem htx
  simp only [List.all_append, List.all_cons, Bool.and_eq_true] at hms
  obtain ⟨hbefore, -, hafter⟩ := hms
  obtain ⟨hoff, -⟩ := State.applyMoves_held before hirq hbefore
  rw [List.foldl_append, List.foldl_cons, State.applyMove, if_neg (by simp [hoff])]
  exact State.applyMoves_txIdle after hafter ⟨rfl, rfl⟩

/-- Settles O48: the turn is the fold of its moves, and a suppressed move only joins those held back. -/
theorem suppressionDelaysNotifications : Obligations.SuppressionDelaysNotifications := by
  intro s hr
  refine ⟨fun hirq => ?_, fun hirq => ?_⟩
  · have hfilter : (fun m : Move => match m with
        | .rx _ _ => true
        | .tx => true
        | .tick _ => false
        | .rst => false) = Move.notifies := by
      funext m
      cases m <;> rfl
    obtain ⟨nw, h⟩ := State.environment_suppressed hirq hr
    exact ⟨nw, hfilter ▸ h⟩
  · obtain ⟨-, hheld⟩ := State.applyMoves_held _ (s := { s with held := [], env := s.env.tail }) hirq hr
    refine ⟨hheld, fun before c ref after heq hlast => ?_, fun hnone => ?_, fun hnone => ?_, fun htx => ?_⟩
    · have hmoves : (s.held ++ s.turnMoves).all Move.notReset = true := hr
      have h := State.applyMoves_last_rx (s := { s with held := [], env := s.env.tail }) hirq (heq ▸ hmoves) hlast
      rw [← heq] at h
      obtain ⟨hxbuf, h⟩ := Prod.mk.inj h
      obtain ⟨hrxref, h⟩ := Prod.mk.inj h
      obtain ⟨hrecv, hstate⟩ := Prod.mk.inj h
      exact ⟨hxbuf, hrxref, hrecv, hstate⟩
    · have h := State.applyMoves_reception _ (s := { s with held := [], env := s.env.tail }) hr hnone
      obtain ⟨hxbuf, h⟩ := Prod.mk.inj h
      obtain ⟨hrxref, h⟩ := Prod.mk.inj h
      obtain ⟨hrecv, hstate⟩ := Prod.mk.inj h
      exact ⟨hxbuf, hrxref, hrecv, hstate⟩
    · exact Prod.mk.inj (State.applyMoves_consumption _ (s := { s with held := [], env := s.env.tail }) hr hnone)
    · obtain ⟨hstate, hsent⟩ := State.applyMoves_tx (s := { s with held := [], env := s.env.tail }) hirq hr htx
      exact ⟨hsent, hstate.trans (congrArg Config.txNodata s.environment_cfg)⟩

/-! ## IMASK and a pair of setters (40 R95) -/

theorem exec_imask {s : State} (m : BitVec 1) (hs : s.fg = .idle) (hr : s.noResetInTurn = true)
    (hp : s.pauseDue = false) :
    exec (.imask m) s = .next { s.environment with irqOff := decide (m = 1), res := 0, cause := none } :=
  State.perform_one_step (t := { s.environment with irqOff := m == 1 }) hs hr hp rfl rfl

/-- Settles O16: the one step of IMASK, or the turn of the pause before it. -/
theorem imaskWritesTheSuppressBit : Obligations.ImaskWritesTheSuppressBit := by
  refine fun s m hs hr => ⟨fun hp => ?_, exec_imask m hs hr⟩
  exact (s.perform_paused _ _ _ hs hp).trans (congrArg Host.Outcome.next (State.environment_goTo hr))

/-- A ready state in which notifications are suppressed, with the codes that it shows, the flags and XBUF. -/
structure State.Masked (s : State) (a b : BitVec 4) (dr ds : Bool) (xb : Chunk) : Prop where
  ready : s.Ready
  irqOff : s.irqOff = true
  status : s.rxstate = a ∧ s.txstate = b
  flags : s.dataReceived = dr ∧ s.dataSent = ds
  xbuf : s.xbuf = xb

section Masked

variable {s : State} {a b : BitVec 4} {dr ds : Bool} {xb : Chunk}

/-- A turn under suppression leaves what is shown. -/
theorem State.Masked.environment (h : s.Masked a b dr ds xb) : s.environment.Masked a b dr ds xb := by
  obtain ⟨nw, e⟩ := State.environment_suppressed h.irqOff h.ready.calm.noResetInTurn
  have hcalm := h.ready.calm.environment
  rw [e] at hcalm ⊢
  exact ⟨⟨h.ready.idle, hcalm⟩, h.irqOff, h.status, h.flags, h.xbuf⟩

theorem State.Masked.setrx (h : s.Masked a b dr ds xb) (c : BitVec 4) :
    ∃ t, exec (.setrx c) s = .next t ∧ t.Masked c b dr ds xb := by
  have he := h.environment
  refine ⟨_, exec_setrx c h.ready.idle h.ready.calm.noResetInTurn (State.pauseDue_of_noPause h.ready.calm.noPause), ?_⟩
  exact ⟨⟨he.ready.idle, he.ready.calm.congr rfl rfl⟩, he.irqOff, ⟨rfl, he.status.2⟩, he.flags, he.xbuf⟩

theorem State.Masked.settx (h : s.Masked a b dr ds xb) (c : BitVec 4) :
    ∃ t, exec (.settx c) s = .next t ∧ t.Masked a c dr ds xb := by
  have he := h.environment
  refine ⟨_, exec_settx c h.ready.idle h.ready.calm.noResetInTurn (State.pauseDue_of_noPause h.ready.calm.noPause), ?_⟩
  exact ⟨⟨he.ready.idle, he.ready.calm.congr rfl rfl⟩, he.irqOff, ⟨he.status.1, rfl⟩, he.flags, he.xbuf⟩

/-- IN does not matter to a masked state. -/
theorem State.Masked.setInBuf (h : s.Masked a b dr ds xb) (data : List Byte) :
    ({ s with inBuf := data } : State).Masked a b dr ds xb :=
  ⟨⟨h.ready.idle, h.ready.calm.congr rfl rfl⟩, h.irqOff, h.status, h.flags, h.xbuf⟩

/-- IMASK 0 ends the suppression after the turn before its step, which still is suppressed. -/
theorem State.Masked.unmask (h : s.Masked a b dr ds xb) :
    ∃ t, exec (.imask 0) s = .next t ∧ t.fg = .idle ∧ t.irqOff = false ∧ t.statusByte = a ++ b := by
  have he := h.environment
  refine ⟨_, exec_imask 0 h.ready.idle h.ready.calm.noResetInTurn (State.pauseDue_of_noPause h.ready.calm.noPause),
    he.ready.idle, rfl, ?_⟩
  exact congrArg₂ (fun (x y : BitVec 4) => (x ++ y : Byte)) he.status.1 he.status.2

end Masked

theorem exec_mask {s : State} (hs : s.Ready) :
    ∃ t, exec (.imask 1) s = .next t ∧
      t.Masked s.environment.rxstate s.environment.txstate s.environment.dataReceived s.environment.dataSent
        s.environment.xbuf := by
  have hidle : s.environment.fg = .idle := State.environment_fg_idle hs.idle
  refine ⟨_, exec_imask 1 hs.idle hs.calm.noResetInTurn (State.pauseDue_of_noPause hs.calm.noPause), ?_⟩
  exact ⟨⟨hidle, hs.calm.environment.congr rfl rfl⟩, rfl, ⟨rfl, rfl⟩, ⟨rfl, rfl⟩, rfl⟩

/-- No move looks at IN. -/
theorem State.environment_setInBuf (s : State) (data : List Byte) :
    ({ s with inBuf := data } : State).environment = { s.environment with inBuf := data } := by
  have hmove : ∀ (u : State) (m : Move),
      ({ u with inBuf := data } : State).applyMove m = { u.applyMove m with inBuf := data } := by
    intro u m
    cases m with
    | rx _ _ | tx => cases hq : u.irqOff <;> simp [State.applyMove, hq, State.chunkReceived, State.chunkConsumed]
    | tick _ | rst => rfl
  have hmoves : ∀ (ms : List Move) (u : State),
      ms.foldl State.applyMove { u with inBuf := data } = { ms.foldl State.applyMove u with inBuf := data } := by
    intro ms
    induction ms with
    | nil => exact fun _ => rfl
    | cons m ms ih => exact fun u => (congrArg (ms.foldl State.applyMove) (hmove u m)).trans (ih _)
  exact hmoves (s.held ++ s.turnMoves) { s with held := [], env := s.env.tail }

/-- Settles O18: from IMASK's step on every turn is suppressed. -/
theorem suppressedSetterPairIsUndisturbed : Obligations.SuppressedSetterPairIsUndisturbed := by
  intro s a b hs hr hp
  obtain ⟨t₁, h₁, hm₁⟩ := exec_mask (s := { s with inBuf := [] }) ⟨hs, hr, hp⟩
  obtain ⟨t₂, h₂, hm₂⟩ := (hm₁.setInBuf []).setrx a
  obtain ⟨t₃, h₃, hm₃⟩ := (hm₂.setInBuf []).settx b
  obtain ⟨u, h₄, hidle, hirq, hstatus⟩ := (hm₃.setInBuf []).unmask
  rw [State.environment_setInBuf] at hm₃
  refine ⟨t₃, u, ?_, hm₃.ready.idle, hm₃.irqOff, ?_, hm₃.flags.1, hm₃.flags.2, hm₃.xbuf, runCalls_cons [] h₄, hidle, hirq,
    hstatus⟩
  · rw [runCalls_cons [] h₁, runCalls_cons [] h₂, runCalls_cons [] h₃]
    rfl
  · exact congrArg₂ (fun (x y : BitVec 4) => (x ++ y : Byte)) hm₃.status.1 hm₃.status.2

end Sys2Proof.Machine
end

section
/-! A failed read leaves the reader closed, and a closed reader fails (spec 41 R107). -/

namespace Sys2Proof.Machine

open Sys2Proof

/-! ## What a read depends on, along an operation -/

/-- The parameters, RXPOS, the indicator of the working buffer, and what the last operation reported. -/
structure Reader where
  cfg : Config
  rxpos : BitVec 6
  indicator : Byte
  res : Half
  cause : Option Cause

def State.reader (s : State) : Reader := ⟨s.cfg, s.rxpos, s.rxbuf[0], s.res, s.cause⟩

theorem State.reader_stay (s : State) (timeout : Millis) : (s.stay timeout).reader = s.reader := proj_ite rfl rfl

/-- Every read fails at once (41 R107). -/
def Reader.Closed (x : Reader) : Prop := 32 ≤ x.rxpos.toNat ∧ x.indicator ≠ x.cfg.indContinues

theorem State.reader_closed_iff (s : State) : s.reader.Closed ↔ s.readClosed := Iff.rfl

/-- The labels on the sequencer and the reader meet `stands`, or the operation has ended and the reader meets
`ended`. -/
def State.Along (stands : List Label → Reader → Prop) (ended : Reader → Prop) (s : State) : Prop :=
  match s.fg with
  | .idle => ended s.reader
  | .running _ _ next back => stands (next :: back) s.reader

section Along

variable {stands : List Label → Reader → Prop} {ended : Reader → Prop} {s t : State} {op : Instr}

theorem State.Along.ite {p : Prop} [Decidable p] (hs : p → s.Along stands ended) (ht : ¬ p → t.Along stands ended) :
    (if p then s else t).Along stands ended := by
  by_cases hp : p
  · rw [if_pos hp]
    exact hs hp
  · rw [if_neg hp]
    exact ht hp

theorem State.Along.of_idle (h : s.Along stands ended) (hs : s.fg = .idle) : ended s.reader := by
  rwa [State.Along, hs] at h

theorem State.Along.applyMove (h : s.Along stands ended) (hreset : ended (State.ofConfig s.cfg).reader) (m : Move) :
    (s.applyMove m).Along stands ended := by
  cases m with
  | rx _ _ | tx => exact .ite (fun _ => h) fun _ => h
  | tick _ => exact h
  | rst => exact hreset

theorem State.Along.environment (h : s.Along stands ended) (hreset : ended (State.ofConfig s.cfg).reader) :
    s.environment.Along stands ended := by
  refine (State.environment_keeps (fun u => u.cfg = s.cfg ∧ u.Along stands ended) (fun _ _ _ h => h) ?_ s ⟨rfl, h⟩).2
  intro u m ⟨hcfg, hu⟩
  obtain ⟨-, hmove, -⟩ := u.applyMove_keeps m
  exact ⟨hmove.trans hcfg, hu.applyMove (hcfg ▸ hreset) m⟩

/-- What every atomic step keeps and a reset leaves, an operation keeps from its first label on. -/
theorem State.perform_along {first : Label} {back : List Label}
    (hreset : ended (State.ofConfig s.cfg).reader)
    (hatomic : ∀ (u v : State) op r next back, u.cfg = s.cfg → stands (next :: back) u.reader →
      u.atomic op r next back = .next v → v.Along stands ended)
    (hs : s.fg = .idle) (hfirst : stands (first :: back) s.reader) (h : s.perform op first back = .next t) :
    t.Along stands ended := by
  refine (State.perform_keeps (P := fun u => u.cfg = s.cfg ∧ u.Along stands ended) ?_ ?_ hs ⟨rfl, hfirst⟩ h).2
  · exact fun u ⟨hcfg, hu⟩ => ⟨u.environment_cfg.trans hcfg, hu.environment (hcfg ▸ hreset)⟩
  · intro u v op r next back ⟨hcfg, hu⟩ hfg ha
    rw [State.Along, hfg] at hu
    exact ⟨(congrArg Outside.cfg (State.atomic_outside ha)).trans hcfg, hatomic u v op r next back hcfg hu ha⟩

end Along

/-! ## The closed reader -/

theorem indInvalid_ne_indContinues {c : Config} (h : c.valid = true) : c.indInvalid ≠ c.indContinues := by
  simp only [Config.valid, Config.indicatorsDiffer, Bool.and_eq_true, bne_iff_ne] at h
  obtain ⟨⟨⟨⟨⟨-, hne⟩, -⟩, -⟩, -⟩, -⟩ := h
  exact hne.symm

theorem State.indicator_of_not_tagged {s : State} (h : ¬ s.chunkTagged = true) : s.rxbuf[0] ≠ s.cfg.indContinues := by
  intro heq
  simp [State.chunkTagged, isIndicator, heq] at h

theorem State.ofConfig_readClosed {c : Config} (h : c.valid = true) : (State.ofConfig c).readClosed :=
  ⟨Nat.le_refl 32, State.ofConfig_indicator c ▸ indInvalid_ne_indContinues h⟩

/-- With the cursor at the boundary an invalidated chunk closes the reader. -/
theorem State.invalidate_readClosed {s : State} (hvalid : s.cfg.valid = true) (hpos : 32 ≤ s.rxpos.toNat) :
    s.invalidate.readClosed := by
  refine ⟨hpos, ?_⟩
  simpa [State.invalidate] using indInvalid_ne_indContinues hvalid

/-! ## RDB (41 R102) -/

/-- What holds at each step of RDB. -/
def readingAt : Label → Reader → Prop
  | .b1, _ | .b8r, _ | .b9, _ => True
  | .b2, x | .b3, x | .b4, x | .b8, x | .b8v, x => 32 ≤ x.rxpos.toNat
  | .b5, x | .b6, x | .b7, x => x.Closed
  | _, _ => False

/-- RDB without a caller stands at a step where its condition holds. -/
def ReadStands : List Label → Reader → Prop
  | [next], x => readingAt next x
  | _, _ => False

/-- A read that has failed has closed the reader. -/
def ReadEnded (x : Reader) : Prop := x.res = 0xFFFF → x.Closed

theorem byteResult_ne_failResult (b : Byte) : byteResult b ≠ 0xFFFF := by
  intro h
  have hle := byteResult_le b
  rw [h] at hle
  exact absurd hle (by decide)

theorem atomic_readStands {s t : State} {op : Instr} {r : Half} {next : Label} {back : List Label}
    (hvalid : s.cfg.valid = true) (h : ReadStands (next :: back) s.reader) (ha : s.atomic op r next back = .next t) :
    t.Along ReadStands ReadEnded := by
  cases back with
  | cons l rest => exact False.elim h
  | nil =>
    cases next with
    | b1 =>
      cases ha
      exact .ite (fun _ => trivial) fun hp => Nat.not_lt.1 hp
    | b2 => cases ha; exact .ite (fun _ => h) fun hne _ => ⟨h, hne⟩
    | b3 => cases ha; exact h
    | b4 => cases ha; exact State.invalidate_readClosed hvalid h
    | b5 | b6 => cases ha; exact h
    | b7 =>
      cases ha
      refine .ite (fun _ => h.1) fun _ => .ite (fun _ _ => h) fun _ => ?_
      show (s.stay _).reader.Closed
      rwa [State.reader_stay]
    | b8 => cases ha; exact h
    | b8v => cases ha; exact .ite (fun _ => trivial) fun ht _ => ⟨h, State.indicator_of_not_tagged ht⟩
    | b8r => cases ha; exact trivial
    | b9 =>
      obtain ⟨v, -, e⟩ | ⟨-, e⟩ := stepB9_cases op [] s <;> cases e.symm.trans ha
      exact fun hres => absurd hres (byteResult_ne_failResult v)
    | _ => exact False.elim h

/-- A failed RDB closes the reader, under any schedule. -/
theorem exec_rdb_readEnded {s t : State} (hvalid : s.cfg.valid = true) (hs : s.fg = .idle)
    (h : exec .rdb s = .next t) : t.Along ReadStands ReadEnded :=
  State.perform_along (first := .b1) (back := []) (fun _ => State.ofConfig_readClosed hvalid)
    (fun _ _ _ _ _ _ hcfg hstands ha => atomic_readStands (hcfg ▸ hvalid) hstands ha) hs trivial h

/-! ## RXDONE (41 R110) -/

/-- RXDONE stands at a step; at its last one it has closed the reader. -/
def ReleaseStands : List Label → Reader → Prop
  | [.d1], _ | [.d2], _ => True
  | [.d3], x => x.Closed
  | _, _ => False

theorem atomic_releaseStands {s t : State} {op : Instr} {r : Half} {next : Label} {back : List Label}
    (hvalid : s.cfg.valid = true) (h : ReleaseStands (next :: back) s.reader) (ha : s.atomic op r next back = .next t) :
    t.Along ReleaseStands Reader.Closed := by
  match next, back, h with
  | .d1, [], _ => cases ha; exact trivial
  | .d2, [], _ =>
    cases ha
    exact ⟨Nat.le_refl 32, (State.invalidate_readClosed (s := { s with rxpos := 32 }) hvalid (Nat.le_refl 32)).2⟩
  | .d3, [], h => cases ha; exact h

theorem exec_rxdone_closes {s t : State} (hvalid : s.cfg.valid = true) (hs : s.fg = .idle)
    (h : exec .rxdone s = .next t) : t.Along ReleaseStands Reader.Closed :=
  State.perform_along (first := .d1) (back := []) (State.ofConfig_readClosed hvalid)
    (fun _ _ _ _ _ _ hcfg hstands ha => atomic_releaseStands (hcfg ▸ hvalid) hstands ha) hs trivial h

/-! ## RXACC (41 R101) -/

/-- RXACC stands at a step; `closed` says that the reader was closed when it began. -/
def AcceptStands (closed : Prop) : List Label → Reader → Prop
  | [.a1], x => closed → x.Closed
  | [.a2], _ | [.a3], _ | [.a4], _ => True
  | _, _ => False

/-- An RXACC that failed with BAD_INDICATOR, or that failed at all with the reader closed before, has left the reader
closed. -/
def AcceptEnded (closed : Prop) (x : Reader) : Prop :=
  (closed ∧ x.res = 0xFFFF) ∨ x.cause = some .badIndicator → x.Closed

theorem atomic_acceptStands {closed : Prop} {s t : State} {op : Instr} {r : Half} {next : Label} {back : List Label}
    (h : AcceptStands closed (next :: back) s.reader) (ha : s.atomic op r next back = .next t) :
    t.Along (AcceptStands closed) (AcceptEnded closed) := by
  match next, back, h with
  | .a1, [], h =>
    cases ha
    exact .ite (fun _ => trivial) fun _ hend => h (hend.resolve_right nofun).1
  | .a2, [], _ => cases ha; exact trivial
  | .a3, [], _ =>
    cases ha
    exact .ite (fun _ => trivial) fun ht _ => ⟨Nat.le_refl 32, State.indicator_of_not_tagged ht⟩
  | .a4, [], _ =>
    cases ha
    rintro (⟨-, hres⟩ | hcause)
    · exact absurd hres (by decide : (0 : Half) ≠ 0xFFFF)
    · cases hcause

theorem exec_rxacc_acceptEnded {closed : Prop} {s t : State} (hvalid : s.cfg.valid = true) (hs : s.fg = .idle)
    (hclosed : closed → s.readClosed) (h : exec .rxacc s = .next t) :
    t.Along (AcceptStands closed) (AcceptEnded closed) :=
  State.perform_along (first := .a1) (back := []) (fun _ => State.ofConfig_readClosed hvalid)
    (fun _ _ _ _ _ _ _ hstands ha => atomic_acceptStands hstands ha) hs hclosed h

/-! ## No operation but RXACC opens a closed reader -/

/-- The step is none of RXACC, and none of RDB that an open reader alone comes to. -/
def Label.leavesClosed : Label → Bool
  | .a1 | .a2 | .a3 | .a4 => false
  | .b3 | .b4 | .b5 | .b6 | .b7 | .b8 | .b8v | .b8r | .b9 => false
  | _ => true

/-- B1 and B2, where the reader decides. -/
def Label.testsReader : Label → Bool
  | .b1 | .b2 => true
  | _ => false

/-- Such a step leads only to such steps, but where the reader decides. -/
theorem Label.leavesClosed_follows (c : Config) (d : Byte) (l : Label) :
    (!l.leavesClosed || l.testsReader || (l.follows c d).all Label.leavesClosed) = true := by
  cases l <;> rfl

def ClosedStands (stack : List Label) (x : Reader) : Prop := (∀ l ∈ stack, l.leavesClosed = true) ∧ x.Closed

theorem State.Along.of_closed {t : State} (hstack : ∀ l ∈ t.stack, l.leavesClosed = true) (hclosed : t.readClosed) :
    t.Along ClosedStands Reader.Closed := by
  unfold State.Along
  cases hfg : t.fg with
  | idle => exact hclosed
  | running op r next back => exact ⟨t.stack_of_running hfg ▸ hstack, hclosed⟩

theorem State.Along.readClosed {t : State} (h : t.Along ClosedStands Reader.Closed) : t.readClosed := by
  unfold State.Along at h
  split at h
  · exact h
  · exact h.2

/-- The assignments of such a step, the reader deciding or not. -/
theorem State.writes_readClosed {s : State} {r : Half} {next : Label} (hvalid : s.cfg.valid = true)
    (hnext : next.leavesClosed = true) (h : s.readClosed) : (s.writes r next).readClosed := by
  cases next with
  | d2 => exact ⟨Nat.le_refl 32, (State.invalidate_readClosed hvalid h.1).2⟩
  | f3 =>
    have hsame : (s.writes r .f3).reader = s.reader := proj_ite rfl (proj_ite rfl (State.reader_stay ..))
    rwa [← State.reader_closed_iff, hsame]
  | dataStart len =>
    have hsame : (s.writes r (.dataStart len)).reader = s.reader := proj_ite rfl rfl
    rwa [← State.reader_closed_iff, hsame]
  | dataLoop len =>
    have hsame : (s.writes r (.dataLoop len)).reader = s.reader := proj_ite rfl rfl
    rwa [← State.reader_closed_iff, hsame]
  | p2r =>
    have hsame : (s.writes r .p2r).reader = s.reader :=
      (proj_ite rfl rfl : (s.storeClamped (resultByte r)).reader = s.reader)
    rwa [← State.reader_closed_iff, hsame]
  | a1 | a2 | a3 | a4 | b3 | b4 | b5 | b6 | b7 | b8 | b8v | b8r | b9 => contradiction
  | _ => exact h

theorem atomic_closedStands {s t : State} {op : Instr} {r : Half} {next : Label} {back : List Label}
    (hvalid : s.cfg.valid = true) (h : ClosedStands (next :: back) s.reader) (ha : s.atomic op r next back = .next t) :
    t.Along ClosedStands Reader.Closed := by
  obtain ⟨hstack, hclosed⟩ := h
  obtain ⟨hnext, hback⟩ := List.forall_mem_cons.1 hstack
  cases htests : next.testsReader with
  | true =>
    cases next with
    | b1 => cases ha; exact .ite (fun hlt => absurd hclosed.1 (Nat.not_le.2 hlt)) fun _ => ⟨List.forall_mem_cons.2 ⟨rfl, hback⟩, hclosed⟩
    | b2 => cases ha; exact .ite (fun heq => absurd heq hclosed.2) fun _ => hclosed
    | _ => contradiction
  | false =>
    have hread : t.readClosed := by
      obtain ⟨_, _, _, rfl⟩ := State.atomic_writes ha
      exact State.writes_readClosed (r := r) hvalid hnext hclosed
    refine .of_closed ?_ hread
    obtain ⟨d, hidle | ⟨pushed, hpushed, hfollows⟩⟩ := State.atomic_goesOn ha
    · rw [t.stack_of_idle hidle]
      nofun
    · have hall := Label.leavesClosed_follows s.cfg d next
      rw [hnext, htests, Bool.not_true, Bool.false_or, Bool.false_or, List.all_eq_true] at hall
      rw [hpushed]
      intro l hl
      obtain hl | hl := List.mem_append.1 hl
      · exact hall l (hfollows l hl)
      · exact hback l hl

theorem exec_leaves_closed {i : Instr} {s t : State} (hi : i ≠ .rxacc) (hvalid : s.cfg.valid = true) (hs : s.fg = .idle)
    (hclosed : s.readClosed) (h : exec i s = .next t) : t.readClosed := by
  have hrun : ∀ first back, (first :: back).all Label.leavesClosed = true → s.perform i first back = .next t →
      t.readClosed := fun first back hall hp =>
    (State.perform_along (State.ofConfig_readClosed hvalid)
      (fun _ _ _ _ _ _ hcfg hstands ha => atomic_closedStands (hcfg ▸ hvalid) hstands ha) hs
      ⟨List.all_eq_true.1 hall, hclosed⟩ hp).readClosed
  cases i with
  | reserved0 =>
    rw [exec_reserved0_of_idle hs] at h
    cases h
    exact hclosed
  | rxacc => contradiction
  | setrx _ | settx _ | imask _ | rdb | rxdone | rdp _ | rdp16 | rds _ | rstart _ _ | wrb _ | wrp _ | wrp16 _ | rend
  | flush _ => exact hrun _ _ rfl h

/-! ## The reads of a closed reader, under a schedule without a reset or a pause -/

section Schedule

variable {s : State} {op : Instr} {r : Half} {back : List Label}

theorem State.Calm.readClosed_environment (hs : s.Calm) (hc : s.readClosed) : s.environment.readClosed := by
  rwa [State.readClosed, State.environment_rxpos hs.noResetInTurn, State.environment_rxbuf hs.noResetInTurn,
    State.environment_cfg]

/-- B1 and B2, called from any operation: what the two turns did stands in the state besides. -/
theorem rdb_closed_leads_scheduled (hs : s.Calm) (hfg : s.fg = .running op r .b1 back) (hc : s.readClosed) :
    Leads 1 s (s.environment.environment.fail .noContinuation) := by
  have hc' : s.environment.readClosed := hs.readClosed_environment hc
  have hc'' : s.environment.environment.readClosed := hs.environment.readClosed_environment hc'
  have hb1 : Reaches 1 s (s.environment.goTo op .b2 back) :=
    .turn (State.pauseDue_of_noPause hs.noPause) rfl ((State.environment_fg hs.noResetInTurn).trans hfg)
      (congrArg Host.Outcome.next (if_neg (Nat.not_lt.2 hc'.1))) rfl
  refine .after hb1 (.turn (State.pauseDue_of_noPause hs.environment.noPause)
    (State.environment_goTo hs.environment.noResetInTurn) rfl ?_)
  exact congrArg Host.Outcome.next (if_neg hc''.2)

theorem exec_rdb_closed_scheduled (hidle : s.fg = .idle) (hs : s.Calm) (hc : s.readClosed) :
    exec .rdb s = .next (s.environment.environment.failed .noContinuation) := by
  have hlead := rdb_closed_leads_scheduled (s := s.goTo .rdb .b1 []) (hs.congr rfl rfl) rfl hc
  rw [State.environment_goTo hs.noResetInTurn, State.environment_goTo hs.environment.noResetInTurn] at hlead
  exact State.perform_leads hidle hlead rfl (by decide)

/-- An operation whose first step calls RDB fails as that does, one turn later. -/
theorem State.perform_calls_closed {first next : Label} {back : List Label} (hidle : s.fg = .idle) (hs : s.Calm)
    (hc : s.readClosed)
    (hcall : ∀ u : State, u.atomic op 0 first back = .next (u.goTo op .b1 (next :: back))) :
    s.perform op first back = .next (s.environment.environment.environment.failed .noContinuation) := by
  have hfirst : Reaches 1 (s.goTo op first back) (s.environment.goTo op .b1 (next :: back)) :=
    .turn (State.pauseDue_of_noPause hs.noPause) (State.environment_goTo hs.noResetInTurn) rfl (hcall _) rfl
  have hlead := rdb_closed_leads_scheduled (s := s.environment.goTo op .b1 (next :: back))
    (hs.environment.congr rfl rfl) rfl (hs.readClosed_environment hc)
  rw [State.environment_goTo hs.environment.noResetInTurn,
    State.environment_goTo hs.environment.environment.noResetInTurn] at hlead
  exact State.perform_leads hidle (.after hfirst hlead) rfl (by decide)

end Schedule

/-- Settles O26: what closes the reader, what leaves it closed, and what a closed reader answers. -/
theorem readFailureIsSticky : Obligations.ReadFailureIsSticky := by
  refine ⟨?_, ?_, ?_, fun _ => State.ofConfig_readClosed, ?_, ?_, ?_⟩
  · exact fun s t hvalid hs h ht => (exec_rdb_readEnded hvalid hs h).of_idle ht
  · exact fun s t hvalid hs h ht => (exec_rxdone_closes hvalid hs h).of_idle ht
  · exact fun s t hvalid hs h ht hcause =>
      (exec_rxacc_acceptEnded (closed := False) hvalid hs False.elim h).of_idle ht (.inr hcause)
  · exact fun i s t hi hvalid hs hc h => exec_leaves_closed hi hvalid hs hc h
  · exact fun s t hvalid hs hc h ht hres =>
      (exec_rxacc_acceptEnded (closed := True) hvalid hs (fun _ => hc) h).of_idle ht (.inl ⟨trivial, hres⟩)
  · intro s cap hidle hr hp hc
    have hs : s.Calm := ⟨hr, hp⟩
    exact ⟨exec_rdb_closed_scheduled hidle hs hc, State.perform_calls_closed hidle hs hc fun _ => rfl,
      State.perform_calls_closed hidle hs hc fun _ => rfl, State.perform_calls_closed hidle hs hc fun _ => rfl⟩

end Sys2Proof.Machine
end

section
/-! Runs that are not counted: every operation ends, so what its transitions come to is what it answers (spec 60 R164). -/

namespace Sys2Proof.Machine

open Sys2Proof

/-- Some transitions, or none, lead from one state to another without a pause; the last of them may end the
operation. -/
def Comes (s t : State) : Prop := s = t ∨ ∃ n, Leads n s t

section Comes

variable {s t u : State}

theorem Comes.refl (s : State) : Comes s s := .inl rfl

theorem Leads.comes {n : Nat} (h : Leads n s t) : Comes s t := .inr ⟨n, h⟩

/-- Transitions that leave the operation in progress. -/
theorem Comes.reaches (h : Comes s t) (ht : t.idle = false) : ∃ n, Reaches n s t := by
  obtain rfl | ⟨n, hn⟩ := h
  · exact ⟨0, .refl s⟩
  · exact ⟨n + 1, hn.reaches ht⟩

theorem Comes.trans (h : Comes s t) (k : Comes t u) (ht : t.idle = false := by rfl) : Comes s u := by
  obtain ⟨n, hn⟩ := h.reaches ht
  obtain rfl | ⟨m, hm⟩ := k
  · exact h
  · exact .inr ⟨n + m, .after hn hm⟩

theorem Reaches.comes {n : Nat} (h : Reaches n s t) : Comes s t := by
  induction h with
  | refl s => exact .refl s
  | @step n s t u hp ha ht _ ih => exact .trans (.inr ⟨0, s, .refl s, hp, ha⟩) ih ht

/-- One transition, the turn and then the step that stands. -/
theorem Comes.turn {e : State} {op : Instr} {r : Half} {next : Label} {back : List Label} (hp : s.pauseDue = false)
    (he : s.environment = e) (hs : e.fg = .running op r next back) (ha : e.atomic op r next back = .next t) :
    Comes s t :=
  (Leads.turn hp he hs ha).comes

/-- One transition, the environment silent. -/
theorem Comes.quiet {op : Instr} {r : Half} {next : Label} {back : List Label} (he : s.env = []) (hh : s.held = [])
    (hs : s.fg = .running op r next back) (ha : s.atomic op r next back = .next t) : Comes s t :=
  (Leads.quiet he hh hs ha).comes

end Comes

/-! ## A run that has ended is the run -/

/-- Transitions that leave the operation in progress are gone through one by one. -/
theorem Reaches.stands_between {n m : Nat} {s t : State} (h : Reaches n s t) (hm : m ≤ n) (hs : s.idle = false) :
    ∃ u, Reaches m s u ∧ u.idle = false := by
  induction h generalizing m with
  | refl s =>
    obtain rfl : m = 0 := Nat.le_zero.1 hm
    exact ⟨s, .refl s, hs⟩
  | @step n s t _ hp ha ht _ ih =>
    cases m with
    | zero => exact ⟨s, .refl s, hs⟩
    | succ m =>
      obtain ⟨u, hu, hidle⟩ := ih (Nat.le_of_succ_le_succ hm) ht
      exact ⟨u, .step hp ha ht hu, hidle⟩

/-- A run that has ended has gone beyond every state that the transitions reach. -/
theorem Reaches.lt_of_runOn {n m : Nat} {s t u : State} (h : Reaches n s t) (hs : s.idle = false)
    (hrun : s.runOn m = .next u) (hu : u.fg = .idle) : n < m := by
  by_contra hle
  obtain ⟨v, hv, hstands⟩ := h.stands_between (Nat.not_lt.1 hle) hs
  have hrun' : s.runOn m = .next v := State.runOn_reaches hv 0
  obtain rfl := Host.Outcome.next.inj (hrun.symm.trans hrun')
  rw [u.idle_of_idle hu] at hstands
  contradiction

/-- A run that has ended is the same with more transitions allowed. -/
theorem State.runOn_more (n k : Nat) {s t : State} (hs : s.idle = false) (h : s.runOn n = .next t)
    (ht : t.fg = .idle) : s.runOn (n + k) = .next t := by
  induction n generalizing s with
  | zero =>
    obtain rfl := Host.Outcome.next.inj h
    rw [s.idle_of_idle ht] at hs
    contradiction
  | succ n ih =>
    rw [Nat.add_right_comm]
    rw [State.runOn] at h ⊢
    cases ha : s.advance with
    | next u =>
      simp only [ha] at h ⊢
      by_cases hstop : (s.pauseDue || u.idle) = true
      · rwa [if_pos hstop] at h ⊢
      · rw [if_neg hstop] at h ⊢
        exact ih (Bool.eq_false_iff.2 fun hidle => hstop (by rw [hidle, Bool.or_true])) h
    | fault f | refused r => rw [ha] at h; cases h

/-- Two runs that have ended, from one state. -/
theorem State.runOn_eq {n m : Nat} {s t u : State} (hs : s.idle = false) (h : s.runOn n = .next t) (ht : t.fg = .idle)
    (k : s.runOn m = .next u) (hu : u.fg = .idle) : t = u := by
  have hn := State.runOn_more n m hs h ht
  rw [Nat.add_comm, State.runOn_more m n hs k hu] at hn
  exact (Host.Outcome.next.inj hn).symm

/-! ## What an operation answers -/

/-- The first step of an operation, and the steps it returns to. -/
def startOf : Instr → Option (Label × List Label)
  | .reserved0 => none
  | .setrx c => some (.setrxS1 c, [])
  | .settx c => some (.settxS1 c, [])
  | .imask m => some (.imaskS1 m, [])
  | .rxacc => some (.a1, [])
  | .rdb => some (.b1, [])
  | .rxdone => some (.d1, [])
  | .rdp cap => some (.p1 cap, [.p3])
  | .rdp16 => some (.q1, [])
  | .rds cap => some (.p1 cap, [.t2])
  | .rstart cmd n => some (.s1, [.s4 cmd, .s5 n])
  | .wrb d => some (.w1 d, [])
  | .flush ind => some (.f1 ind, [])
  | .wrp len => some (.u1 len, [.dataStart (lenOfByte len), .dataDone])
  | .wrp16 len => some (.v1 len, [.dataStart len, .dataDone])
  | .rend => some (.e1, [])

theorem exec_of_start {i : Instr} {first : Label} {back : List Label} (h : startOf i = some (first, back)) (s : State) :
    exec i s = s.perform i first back := by
  cases i <;> cases h <;> rfl

section Exec

variable {i : Instr} {s t : State} {first : Label} {back : List Label}

/-- The run of an accepted operation ends. -/
theorem exec_runs (h : startOf i = some (first, back)) (hs : s.fg = .idle) (hp : s.noPause = true) :
    ∃ u, exec i s = .next u ∧ u.fg = .idle ∧ (s.goTo i first back).runOn s.budget = .next u := by
  obtain ⟨u, hexec, hidle⟩ := exec_finishes i hs hp
  refine ⟨u, hexec, hidle, ?_⟩
  rw [← hexec, exec_of_start h]
  simp only [State.perform, hs]

/-- An operation answers the idle state it comes to. -/
theorem exec_of_comes (h : startOf i = some (first, back)) (hs : s.fg = .idle) (hp : s.noPause = true)
    (hcomes : Comes (s.goTo i first back) t) (ht : t.fg = .idle) : exec i s = .next t := by
  obtain ⟨u, hexec, hidle, hrun⟩ := exec_runs h hs hp
  obtain rfl | ⟨n, v, hv, hpause, ha⟩ := hcomes
  · cases ht
  · have hstop : (s.goTo i first back).runOn (n + 1) = .next t := State.runOn_completes hv ha ht (Nat.lt_succ_self n)
    rw [hexec, State.runOn_eq rfl hrun hidle hstop ht]

/-- Two states from which an operation comes to one state in progress answer it alike. -/
theorem exec_congr_of_comes {u v : State} (h : startOf i = some (first, back)) (hs : s.fg = .idle) (hu : u.fg = .idle)
    (hsp : s.noPause = true) (hup : u.noPause = true) (hs' : Comes (s.goTo i first back) v)
    (hu' : Comes (u.goTo i first back) v) (hv : v.idle = false) : exec i s = exec i u := by
  obtain ⟨n, hn⟩ := hs'.reaches hv
  obtain ⟨m, hm⟩ := hu'.reaches hv
  obtain ⟨t, hexec, ht, hrun⟩ := exec_runs h hs hsp
  obtain ⟨t', hexec', ht', hrun'⟩ := exec_runs h hu hup
  obtain ⟨a, ha⟩ := Nat.exists_eq_add_of_lt (hn.lt_of_runOn rfl hrun ht)
  obtain ⟨b, hb⟩ := Nat.exists_eq_add_of_lt (hm.lt_of_runOn rfl hrun' ht')
  rw [ha, Nat.add_assoc, State.runOn_reaches hn] at hrun
  rw [hb, Nat.add_assoc, State.runOn_reaches hm] at hrun'
  rw [hexec, hexec', State.runOn_eq hv hrun ht hrun' ht']

theorem State.alone.noPause (h : s.alone) : s.noPause = true := by
  obtain ⟨-, he, -⟩ := h
  rw [State.noPause, he]
  rfl

/-- With the environment silent an operation answers the idle state it comes to. -/
theorem exec_alone (h : startOf i = some (first, back)) (hs : s.alone) (hcomes : Comes (s.goTo i first back) t)
    (ht : t.fg = .idle) : exec i s = .next t :=
  exec_of_comes h hs.1 hs.noPause hcomes ht

end Exec

end Sys2Proof.Machine
end

section
/-! RXACC, RDB and RXDONE with the environment silent, or with single deliveries (spec 41 R101 to R105, R110; 70 R210). -/

namespace Sys2Proof.Machine

open Sys2Proof

/-! ## RXACC (41 R101) -/

/-- No chunk is pending. -/
theorem exec_rxacc_none {s : State} (h : s.alone) (hd : s.dataReceived = false) :
    exec .rxacc s = .next (s.failed .noChunk) :=
  exec_alone rfl h (.quiet h.2.1 h.2.2 rfl (congrArg Host.Outcome.next (if_neg (by simp [hd])))) rfl

/-- The pending chunk is not tagged. -/
theorem exec_rxacc_untagged {s : State} (h : s.alone) (hd : s.dataReceived = true) (ht : ¬ tagged s.cfg s.xbuf) :
    exec .rxacc s = .next
      (({ s with rxbuf := s.xbuf, rxpos := 32, uncopied := false, readFailed := true } : State).failed .badIndicator) := by
  obtain ⟨-, he, hh⟩ := id h
  have ha1 : Comes (s.goTo .rxacc .a1 []) (s.goTo .rxacc .a2 []) :=
    .quiet he hh rfl (congrArg Host.Outcome.next (if_pos hd))
  have ha2 : Comes (s.goTo .rxacc .a2 []) (s.copyChunk.goTo .rxacc .a3 []) := .quiet he hh rfl rfl
  have hbad : ¬ isIndicator s.cfg s.xbuf[0] = true := by simpa [isIndicator, tagged] using ht
  have ha3 : Comes (s.copyChunk.goTo .rxacc .a3 []) _ := .quiet he hh rfl (congrArg Host.Outcome.next (if_neg hbad))
  exact exec_alone rfl h ((ha1.trans ha2).trans ha3) rfl

/-- Settles O19: no chunk, a tagged chunk, a chunk that is not tagged. -/
theorem rxaccAcceptsThePendingChunk : Obligations.RxaccAcceptsThePendingChunk := by
  intro s h
  by_cases hd : s.dataReceived = false
  · rw [if_pos hd]
    exact exec_rxacc_none h hd
  · rw [if_neg hd]
    rw [Bool.not_eq_false] at hd
    by_cases ht : tagged s.cfg s.xbuf
    · exact (exec_rxacc_tagged h hd ht).trans (congrArg Host.Outcome.next (if_pos ht).symm)
    · exact (exec_rxacc_untagged h hd ht).trans (congrArg Host.Outcome.next (if_neg ht).symm)

/-- RXACC where the flag is found set at A1 and the chunk copied at A2 is tagged, the environment silent after
A2. -/
theorem exec_rxacc_of_turns {s e₁ e₂ : State} (hs : s.fg = .idle) (hr : s.noReset = true) (hp : s.noPause = true)
    (h₁ : s.environment = e₁) (h₂ : e₁.environment = e₂) (he : e₂.env = []) (hh : e₂.held = [])
    (hd : e₁.dataReceived = true) (ht : tagged e₂.cfg e₂.xbuf) :
    exec .rxacc s = .next (e₂.accepted.finished 0) := by
  subst h₁ h₂
  have hcalm : s.environment.Calm := State.Calm.environment ⟨hr, hp⟩
  have ha1 : Comes (s.goTo .rxacc .a1 []) (s.environment.goTo .rxacc .a2 []) :=
    .turn (State.pauseDue_of_noPause hp) (State.environment_goTo (State.noResetInTurn_of_noReset hr)) rfl
      (congrArg Host.Outcome.next (if_pos hd))
  have ha2 : Comes (s.environment.goTo .rxacc .a2 []) (s.environment.environment.copyChunk.goTo .rxacc .a3 []) :=
    .turn (State.pauseDue_of_noPause hcalm.noPause) (State.environment_goTo hcalm.noResetInTurn) rfl rfl
  have ha3 : Comes (s.environment.environment.copyChunk.goTo .rxacc .a3 [])
      (s.environment.environment.copyChunk.goTo .rxacc .a4 []) :=
    .quiet he hh rfl (congrArg Host.Outcome.next (if_pos (isIndicator_of_tagged ht)))
  exact exec_of_comes rfl hs hp (((ha1.trans ha2).trans ha3).trans (.quiet he hh rfl rfl)) rfl

/-- Settles O20: in each of the four schedules the turn before A2 leaves the last chunk in XBUF. -/
theorem secondDeliveryReplacesTheFirst : Obligations.SecondDeliveryReplacesTheFirst := by
  intro s a b ra rb hs hh hirq ht hcases
  have hr : s.noReset = true := by
    rcases hcases with he | he | ⟨-, he | he⟩ <;> simp [State.noReset, hh, he, Move.notReset]
  have hp : s.noPause = true := by
    rcases hcases with he | he | ⟨-, he | he⟩ <;> simp [State.noPause, he]
  obtain he | he | ⟨hd, he | he⟩ := hcases
  · have h₁ : s.environment = (({ s with env := [] } : State).chunkReceived a ra).chunkReceived b rb := by
      simp [State.environment, State.turnMoves, State.applyMove, hh, he, hirq]
    exact exec_rxacc_of_turns hs hr hp h₁ (State.environment_quiet _ rfl hh) rfl hh rfl ht
  · exact exec_rxacc_of_turns hs hr hp (State.environment_delivery hh hirq he)
      (State.environment_delivery hh hirq rfl) rfl hh rfl ht
  · exact exec_rxacc_of_turns hs hr hp (State.environment_delivery hh hirq he)
      (State.environment_quiet _ rfl hh) rfl hh rfl ht
  · exact exec_rxacc_of_turns hs hr hp (State.environment_empty hh he)
      (State.environment_delivery hh hirq rfl) rfl hh hd ht

/-! ## RDB (41 R102, R103, R105) -/

/-- Settles O21. -/
theorem rdbReturnsTheByteAtTheCursor : Obligations.RdbReturnsTheByteAtTheCursor :=
  fun _ _ h hv => exec_rdb_in_chunk h hv

section Boundary

variable {s : State} {op : Instr} {r : Half} {back : List Label}

/-- B1 to B6, the environment silent. -/
theorem rdb_invites_quiet_comes (he : s.env = []) (hh : s.held = []) (hs : s.fg = .running op r .b1 back)
    (hb : 32 ≤ s.rxpos.toNat) (hc : s.rxbuf[0] = s.cfg.indContinues) :
    Comes s (({ s.invited with t0 := s.now } : State).goTo op .b7 back) := by
  have hb1 : Comes s (s.goTo op .b2 back) := .quiet he hh hs (congrArg Host.Outcome.next (if_neg (Nat.not_lt.2 hb)))
  have hb2 := hb1.trans (.quiet he hh rfl (congrArg Host.Outcome.next (if_pos hc)))
  exact (((hb2.trans (.quiet he hh rfl rfl)).trans (.quiet he hh rfl rfl)).trans (.quiet he hh rfl rfl)).trans
    (.quiet he hh rfl rfl)

theorem stepB7_expired (hd : s.dataReceived = false) (hx : expired s.cfg.rxTimeoutMs s.now s.t0 = true) :
    stepB7 op back s = s.failRead .rxTimeout := by
  rw [stepB7, if_neg (by simp [hd]), if_pos hx]

/-- The wait B7, the environment silent: the time runs to the deadline (log 8), at which the poll fails. -/
theorem rdb_deadline_leads (he : s.env = []) (hh : s.held = []) (hs : s.fg = .running op r .b7 back)
    (hd : s.dataReceived = false) (ht0 : s.t0 = s.now) :
    ∃ n ≤ 1, Leads n s (({ s with now := s.now + s.cfg.rxTimeoutMs } : State).failRead .rxTimeout) := by
  by_cases hx : expired s.cfg.rxTimeoutMs s.now s.t0 = true
  · have hzero : s.cfg.rxTimeoutMs = 0 := by
      apply BitVec.eq_of_toNat_eq
      simpa [expired, ht0] using hx
    have hnow : s.now + s.cfg.rxTimeoutMs = s.now := by simp [hzero]
    rw [hnow]
    exact ⟨0, Nat.zero_le 1, .quiet he hh hs (congrArg Host.Outcome.next (stepB7_expired hd hx))⟩
  · have hstay : Reaches 1 s (({ s with now := s.now + s.cfg.rxTimeoutMs } : State).goTo op .b7 back) := by
      refine .quiet he hh hs (congrArg Host.Outcome.next ?_) rfl
      rw [stepB7, if_neg (by simp [hd]), if_neg hx, s.stay_exhausted _ he, ht0]
    refine ⟨1, Nat.le_refl 1, .after hstay (.quiet he hh rfl (congrArg Host.Outcome.next (stepB7_expired hd ?_)))⟩
    exact (congrArg _ ht0).trans (expired_refl _ _)

/-- RDB at the boundary, the continuation not coming (41 R103), called from any operation. -/
theorem rdb_timeout_comes (he : s.env = []) (hh : s.held = []) (hs : s.fg = .running op r .b1 back)
    (hb : 32 ≤ s.rxpos.toNat) (hc : s.rxbuf[0] = s.cfg.indContinues) :
    Comes s (s.afterTimeout.fail .rxTimeout) := by
  obtain ⟨n, -, hdeadline⟩ := rdb_deadline_leads (op := op) (r := 0) (back := back)
    (s := ({ s.invited with t0 := s.now } : State).goTo op .b7 back) he hh rfl rfl rfl
  exact (rdb_invites_quiet_comes he hh hs hb hc).trans hdeadline.comes

end Boundary

/-- Settles O23: the chunk has no continuation, or none comes. -/
theorem rdbFailsAtTheBoundary : Obligations.RdbFailsAtTheBoundary := by
  intro s h hb
  by_cases hc : s.rxbuf[0] = s.cfg.indContinues
  · rw [if_pos hc]
    exact exec_alone rfl h (rdb_timeout_comes (s := s.goTo .rdb .b1 []) h.2.1 h.2.2 rfl hb hc) rfl
  · rw [if_neg hc]
    exact exec_rdb_closed h ⟨hb, hc⟩

theorem noPause_of_arrival {s : State} {ms : List Millis} {chunk : Chunk} {ref : Nat}
    (he : s.env = arrival ms chunk ref) : s.noPause = true := by
  simp [State.noPause, he, arrival, ticks]

/-- The copied chunk is not tagged (41 R103). -/
theorem rdb_rejects_comes {s : State} {op : Instr} {r : Half} {back : List Label} (he : s.env = []) (hh : s.held = [])
    (hs : s.fg = .running op r .b8v back) (ht : ¬ tagged s.cfg s.rxbuf) :
    Comes s (s.failRead .badIndicator) := by
  have hbad : ¬ s.chunkTagged = true := by simpa [State.chunkTagged, isIndicator, tagged] using ht
  exact .quiet he hh hs (congrArg Host.Outcome.next (if_neg hbad))

/-- Settles O24: the chunk copied after the wait is tagged, or it is not. -/
theorem rdbTakesTheContinuation : Obligations.RdbTakesTheContinuation := by
  intro s d hs hh hirq hb hc he hd
  refine ⟨fun ht => exec_rdb_continuation hs hh hirq hb hc he hd ht, fun ht => ?_⟩
  obtain ⟨n, -, hcopied⟩ :=
    rdb_continuation_reaches (s := s.goTo .rdb .b1 []) (op := .rdb) (r := 0) (back := []) hh hirq rfl hb hc he hd
  exact exec_of_comes rfl hs (noPause_of_arrival he) (hcopied.comes.trans (rdb_rejects_comes rfl hh rfl ht)) rfl

/-! ## RXDONE (41 R110) -/

/-- D1. -/
def State.flagCleared (s : State) : State := { s with dataReceived := false }

/-- D2. -/
def State.parked (s : State) : State := { s.invalidate with rxpos := 32, readFailed := false }

/-- RXDONE, each of its three steps after a turn. -/
theorem exec_rxdone_of_turns {s e₁ e₂ e₃ : State} (hs : s.fg = .idle) (hr : s.noReset = true) (hp : s.noPause = true)
    (h₁ : s.environment = e₁) (h₂ : e₁.flagCleared.environment = e₂) (h₃ : e₂.parked.environment = e₃) :
    exec .rxdone s = .next (({ e₃ with rxstate := e₃.cfg.rxReady } : State).finished 0) := by
  subst h₁ h₂ h₃
  have hc₁ : s.environment.flagCleared.Calm := (State.Calm.environment ⟨hr, hp⟩).congr rfl rfl
  have hc₂ : s.environment.flagCleared.environment.parked.Calm := hc₁.environment.congr rfl rfl
  have hd1 : Comes (s.goTo .rxdone .d1 []) (s.environment.flagCleared.goTo .rxdone .d2 []) :=
    .turn (State.pauseDue_of_noPause hp) (State.environment_goTo (State.noResetInTurn_of_noReset hr)) rfl rfl
  have hd2 : Comes (s.environment.flagCleared.goTo .rxdone .d2 [])
      (s.environment.flagCleared.environment.parked.goTo .rxdone .d3 []) :=
    .turn (State.pauseDue_of_noPause hc₁.noPause) (State.environment_goTo hc₁.noResetInTurn) rfl rfl
  have hd3 : Comes (s.environment.flagCleared.environment.parked.goTo .rxdone .d3 []) _ :=
    .turn (State.pauseDue_of_noPause hc₂.noPause) (State.environment_goTo hc₂.noResetInTurn) rfl rfl
  exact exec_of_comes rfl hs hp ((hd1.trans hd2).trans hd3) rfl

/-- Settles O27: a chunk delivered before D1, before D2, before D3, or none. -/
theorem rxdoneReleasesTheMessage : Obligations.RxdoneReleasesTheMessage := by
  intro s hs hh
  refine ⟨fun he => ?_, fun c ref hirq => ⟨fun he => ?_, ?_⟩⟩
  · exact exec_rxdone_of_turns hs (by simp [State.noReset, he, hh]) (by simp [State.noPause, he])
      (s.environment_quiet he hh) (State.environment_quiet _ he hh) (State.environment_quiet _ he hh)
  · exact exec_rxdone_of_turns hs (by simp [State.noReset, he, hh, Move.notReset]) (by simp [State.noPause, he])
      (State.environment_delivery hh hirq he) (State.environment_quiet _ rfl hh) (State.environment_quiet _ rfl hh)
  · rintro n (rfl | rfl) he
    · exact exec_rxdone_of_turns hs (by simp [State.noReset, he, hh, Move.notReset]) (by simp [State.noPause, he])
        (State.environment_empty hh he) (State.environment_delivery hh hirq rfl) (State.environment_quiet _ rfl hh)
    · exact exec_rxdone_of_turns hs (by simp [State.noReset, he, hh, Move.notReset]) (by simp [State.noPause, he])
        (State.environment_empty hh he) (State.environment_empty hh rfl) (State.environment_delivery hh hirq rfl)

end Sys2Proof.Machine
end

section
/-! The transmit operations with the environment silent (spec 42 R131 to R140). -/

namespace Sys2Proof.Machine

open Sys2Proof

/-! ## WRB and FLUSH, called from any operation -/

section Calls

variable {s : State} {op : Instr} {back : List Label}

theorem wrb_comes {next : Label} {r : Half} {d : Byte} (he : s.env = []) (hh : s.held = [])
    (hs : s.fg = .running op r next back) (hnext : next = .w1 d) : Comes s ((s.appended d).finish op 0 back) := by
  obtain ⟨n, -, hlead⟩ := wrb_leads he hh (hnext ▸ hs)
  exact hlead.comes

/-- The WRB that has been called, the sequencer's state given apart. -/
theorem wrb_called_comes {d : Byte} (he : s.env = []) (hh : s.held = []) :
    Comes (s.goTo op (.w1 d) back) ((s.appended d).finish op 0 back) := by
  have hwrb := wrb_comes (s := s.goTo op (.w1 d) back) he hh rfl rfl
  rwa [State.appended_finish] at hwrb

/-- The FLUSH that has been called. -/
theorem flush_called_comes {ind : Byte} (he : s.env = []) (hh : s.held = []) :
    Comes (s.goTo op (.f1 ind) back) ((s.flushed ind).finish op 0 back) := by
  obtain ⟨n, -, hlead⟩ := flush_leads (s := s.goTo op (.f1 ind) back) he hh rfl
  rw [State.flushed_finish] at hlead
  exact hlead.comes

/-- Appending a byte leaves the environment silent. -/
theorem State.appended_env (d : Byte) (he : s.env = []) : (s.appended d).env = [] :=
  (s.appended_frame d).1.trans he

theorem State.appended_held (d : Byte) (hh : s.held = []) : (s.appended d).held = [] :=
  (s.appended_frame d).2.1.trans hh

end Calls

/-! ## WRB (42 R132) -/

theorem exec_wrb_alone {s : State} (d : Byte) (h : s.alone) : exec (.wrb d) s = .next ((s.appended d).finished 0) :=
  exec_alone rfl h (wrb_called_comes h.2.1 h.2.2) rfl

theorem State.flushed_of_buffered {s : State} (ind : Byte) (h : s.txpos ≠ 0) :
    (s.flushed ind).txbuf = s.txbuf.set 0 ind ∧
      (s.flushed ind).txLog = s.txLog ++ [(s.txbuf.set 0 ind).toList.take (s.txpos.toNat + 1)] ∧
      (s.flushed ind).txOffered := by
  rw [State.flushed, if_neg h]
  exact ⟨rfl, rfl, rfl, rfl⟩

/-- Settles O36: the general answer, and what it is below the capacity and at it. -/
theorem wrbAppendsTheByte : Obligations.WrbAppendsTheByte := by
  intro s d h
  refine ⟨exec_wrb_alone d h, fun hroom => ?_, fun hfull => ?_⟩
  · rw [exec_wrb_alone d h, State.appended, if_neg (by omega)]
    rfl
  · have hpos : s.txpos.toNat = 31 := by have := s.txpos.isLt; omega
    have hne : s.txpos ≠ 0 := by rintro h0; rw [h0] at hpos; contradiction
    obtain ⟨hbuf, hlog, -⟩ := State.flushed_of_buffered s.cfg.indContinues hne
    obtain ⟨-, -, -, hempty, -⟩ := s.flushed_frame s.cfg.indContinues
    refine ⟨_, exec_wrb_alone d h, ?_⟩
    rw [State.appended, if_pos hfull]
    refine ⟨?_, ?_, ?_⟩
    · show (s.flushed s.cfg.indContinues).txpos + 1 = 1
      rw [hempty]
      rfl
    · simp [State.finished, State.put, hempty]
    · show (s.flushed s.cfg.indContinues).txLog = _
      rw [hlog, hpos, List.take_of_length_le (by simp)]

/-! ## FLUSH (42 R134) -/

/-- Settles O37. -/
theorem flushHandsOffTheBuffer : Obligations.FlushHandsOffTheBuffer := fun _ ind h => exec_flush_alone ind h

section Acknowledgement

variable {s : State} {op : Instr} {r : Half} {back : List Label}

theorem acknowledgement_ne_nil (ms : List Millis) : acknowledgement ms ≠ [] := by simp [acknowledgement]

theorem State.environment_consumption {rest : List Turn} (hh : s.held = []) (hq : s.irqOff = false)
    (he : s.env = ⟨[.tx], false⟩ :: rest) : s.environment = ({ s with env := rest } : State).chunkConsumed := by
  rw [State.environment_single hh he]
  exact if_neg (by simp [hq])

/-- The wait F3, the chunk consumed before the timeout: every poll before it stays, and the poll after it finds the
flag. -/
theorem flush_wait_comes (ms : List Millis) (hh : s.held = []) (hq : s.irqOff = false)
    (hs : s.fg = .running op r .f3 back) (hd : s.dataSent = false) (he : s.env = acknowledgement ms)
    (hx : (s.now - s.t0).toNat + totalMillis ms < s.cfg.txTimeoutMs.toNat) :
    Comes s ((({ s with now := s.later ms, env := [] } : State).chunkConsumed).goTo op .f4 back) := by
  induction ms generalizing s r with
  | nil =>
    exact .turn (State.pauseDue_cons he) (State.environment_consumption hh hq he) hs
      (congrArg Host.Outcome.next (stepF3_flag op back rfl))
  | cons m ms ih =>
    rw [totalMillis_cons] at hx
    have helapsed := elapsed_add_le s.now s.t0 m
    have hx' : (s.now + m - s.t0).toNat < s.cfg.txTimeoutMs.toNat := by omega
    have hpoll : Comes s (({ s with now := s.now + m, env := acknowledgement ms } : State).goTo op .f3 back) := by
      refine .turn (State.pauseDue_cons he) (State.environment_tick hh he) hs (congrArg Host.Outcome.next ?_)
      refine (stepF3_stays (s := { s with now := s.now + m, env := acknowledgement ms }) op back hd
        (decide_eq_false (Nat.not_le.2 hx'))).trans ?_
      exact congrArg (·.goTo op .f3 back)
        (State.stay_scheduled { s with now := s.now + m, env := acknowledgement ms } _ (acknowledgement_ne_nil ms))
    exact hpoll.trans (ih (s := ({ s with now := s.now + m, env := acknowledgement ms } : State).goTo op .f3 back)
      hh hq rfl hd rfl (by simp only [State.goTo_now, State.goTo_t0, State.goTo_cfg]; omega))

/-- F1 and F2, the turn before each given. -/
theorem flush_begins_comes {e₁ e₂ : State} {ind : Byte} (hp : s.noPause = true) (hr : s.noReset = true)
    (h0 : s.txpos ≠ 0) (h₁ : s.environment = e₁) (h₂ : ({ e₁ with ind := ind } : State).environment = e₂) :
    Comes (s.goTo op (.f1 ind) back) (({ e₂ with t0 := e₂.now } : State).goTo op .f3 back) := by
  subst h₁ h₂
  have hcalm : s.Calm := ⟨hr, hp⟩
  have hcalm' : ({ s.environment with ind := ind } : State).Calm := hcalm.environment.congr rfl rfl
  have hpos : s.environment.txpos ≠ 0 := (State.own_txpos_eq hcalm.environment_own).trans_ne h0
  have hf1 : Comes (s.goTo op (.f1 ind) back) (({ s.environment with ind := ind } : State).goTo op .f2 back) :=
    .turn (State.pauseDue_of_noPause hp) (State.environment_goTo hcalm.noResetInTurn) rfl
      (congrArg Host.Outcome.next (if_neg hpos))
  exact hf1.trans (.turn (State.pauseDue_of_noPause hcalm'.noPause) (State.environment_goTo hcalm'.noResetInTurn) rfl
    rfl)

/-- FLUSH, the flag found set by the first poll. -/
theorem exec_flush_of_turns {e₁ e₂ : State} {ind : Byte} (hs : s.fg = .idle) (hp : s.noPause = true)
    (hr : s.noReset = true) (h0 : s.txpos ≠ 0) (h₁ : s.environment = e₁)
    (h₂ : ({ e₁ with ind := ind } : State).environment = e₂) (he : e₂.env = []) (hh : e₂.held = [])
    (hd : e₂.dataSent = true) :
    exec (.flush ind) s = .next (({ ({ e₂ with t0 := e₂.now } : State).handOff with txpos := 0 } : State).finished 0) := by
  have hsent := flush_wait_sent_leads (s := ({ e₂ with t0 := e₂.now } : State).goTo (.flush ind) .f3 []) he hh rfl hd
  exact exec_of_comes rfl hs hp ((flush_begins_comes hp hr h0 h₁ h₂).trans hsent.comes) rfl

end Acknowledgement

/-- Settles O38: the chunk is consumed before F1, before F2 or during the wait. -/
theorem flushWaitsForTheAcknowledgement : Obligations.FlushWaitsForTheAcknowledgement := by
  intro s ind ms hs hh hirq hd h0 he hx
  rw [hd]
  have hp : s.noPause = true := by simp [State.noPause, he, acknowledgement, ticks]
  have hr : s.noReset = true := by simp [State.noReset, hh, he, acknowledgement, ticks, Move.notReset]
  match ms, he, hx with
  | [], he, _ =>
    exact exec_flush_of_turns hs hp hr h0 (State.environment_consumption hh hirq he) (State.environment_quiet _ rfl hh)
      rfl hh rfl
  | [m], he, _ =>
    exact exec_flush_of_turns hs hp hr h0 (State.environment_tick hh he) (State.environment_consumption hh hirq rfl)
      rfl hh rfl
  | m₁ :: m₂ :: ms, he, hx =>
    have hbegin := flush_begins_comes (op := .flush ind) (back := []) (ind := ind) hp hr h0
      (State.environment_tick hh he) (State.environment_tick hh rfl)
    have hwait := flush_wait_comes (op := .flush ind) (r := 0) (back := []) ms
      (s := ({ s with ind := ind, now := s.now + m₁ + m₂, t0 := s.now + m₁ + m₂, env := acknowledgement ms } : State).goTo
        (.flush ind) .f3 []) hh hirq rfl hd rfl (by simpa using hx)
    have hdone := flush_from_handOff_leads (op := .flush ind) (r := 0) (back := [])
      (s := (State.chunkConsumed { s with
        ind := ind, now := ({ s with now := s.now + m₁ + m₂ } : State).later ms, t0 := s.now + m₁ + m₂, env := [] }).goTo
        (.flush ind) .f4 []) rfl hh rfl
    exact exec_of_comes rfl hs hp ((hbegin.trans hwait).trans hdone.comes) rfl

/-! ## RSTART (42 R131) and REND (42 R140) -/

/-- S1 and S2. -/
def State.restarted (s : State) : State := { s with txstate := s.cfg.txPreparing, txpos := 0 }

/-- S5. -/
theorem rstart_last_comes {s : State} {op : Instr} {n : Byte} (he : s.env = []) (hh : s.held = []) :
    Comes (s.goTo op (.s5 n) []) ((s.appended n).finish op 0 []) := by
  have hcall : Comes (s.goTo op (.s5 n) []) (s.goTo op (.w1 n) []) := .quiet he hh rfl rfl
  exact hcall.trans (wrb_called_comes he hh)

/-- S4 and S5. -/
theorem rstart_rest_comes {s : State} {op : Instr} {cmd n : Byte} (he : s.env = []) (hh : s.held = []) :
    Comes (s.goTo op (.s4 cmd) [.s5 n]) (((s.appended (replyCommand cmd)).appended n).finish op 0 []) := by
  have hcall : Comes (s.goTo op (.s4 cmd) [.s5 n]) (s.goTo op (.w1 (replyCommand cmd)) [.s5 n]) := .quiet he hh rfl rfl
  exact (hcall.trans (wrb_called_comes he hh)).trans
    (rstart_last_comes (State.appended_env _ he) (State.appended_held _ hh))

theorem exec_rstart_alone {s : State} (cmd n : Byte) (h : s.alone) :
    exec (.rstart cmd n) s =
      .next ((((s.restarted.appended s.cfg.startCmd).appended (replyCommand cmd)).appended n).finished 0) := by
  obtain ⟨-, he, hh⟩ := id h
  have hs1 : Comes (s.goTo (.rstart cmd n) .s1 [.s4 cmd, .s5 n]) _ := .quiet he hh rfl rfl
  have hs3 : Comes (s.goTo (.rstart cmd n) .s1 [.s4 cmd, .s5 n])
      (s.restarted.goTo (.rstart cmd n) (.w1 s.cfg.startCmd) [.s4 cmd, .s5 n]) :=
    (hs1.trans (.quiet he hh rfl rfl)).trans (.quiet he hh rfl rfl)
  exact exec_alone rfl h ((hs3.trans (wrb_called_comes (s := s.restarted) he hh)).trans
    (rstart_rest_comes (State.appended_env (s := s.restarted) _ he) (State.appended_held (s := s.restarted) _ hh))) rfl

theorem State.appended_of_room {s : State} (d : Byte) (h : s.txpos.toNat < 31) : s.appended d = s.put d :=
  if_neg (Nat.not_le.2 h)

/-- Settles O35: the three WRB find the buffer with room. -/
theorem rstartWritesTheHeader : Obligations.RstartWritesTheHeader := by
  intro s cmd n h
  rw [exec_rstart_alone cmd n h, State.appended_of_room _ (s := s.restarted) (by decide : (0 : BitVec 5).toNat < 31),
    State.appended_of_room (s := s.restarted.put s.cfg.startCmd) _ (by decide : (1 : BitVec 5).toNat < 31),
    State.appended_of_room (s := (s.restarted.put s.cfg.startCmd).put (replyCommand cmd)) _
      (by decide : (2 : BitVec 5).toNat < 31)]
  refine congrArg (fun b : Chunk => Host.Outcome.next
    (({ s with txstate := s.cfg.txPreparing, txpos := 3, txbuf := b } : State).finished 0)) ?_
  exact Vector.ext fun k hk => by simp [State.put, State.restarted, replyCommand, Vector.getElem_setIfInBounds, Vector.getElem_set]

theorem exec_rend_alone {s : State} (h : s.alone) :
    exec .rend s = .next (((s.appended s.cfg.endCmd).flushed s.cfg.indFinished).finished 0) := by
  obtain ⟨-, he, hh⟩ := id h
  have he₁ := State.appended_env s.cfg.endCmd he
  have hh₁ := State.appended_held s.cfg.endCmd hh
  obtain ⟨-, -, -, hcfg, -⟩ := s.appended_frame s.cfg.endCmd
  have he1 : Comes (s.goTo .rend .e1 []) (s.goTo .rend (.w1 s.cfg.endCmd) [.e2]) := .quiet he hh rfl rfl
  have he2 : Comes ((s.appended s.cfg.endCmd).goTo .rend .e2 [])
      ((s.appended s.cfg.endCmd).goTo .rend (.f1 s.cfg.indFinished) []) :=
    .quiet he₁ hh₁ rfl (congrArg (fun c : Config =>
      Host.Outcome.next ((s.appended s.cfg.endCmd).goTo .rend (.f1 c.indFinished) [])) hcfg)
  exact exec_alone rfl h (((he1.trans (wrb_called_comes he hh)).trans he2).trans (flush_called_comes he₁ hh₁)) rfl

/-- After an appended byte the buffer is not empty. -/
theorem State.appended_txpos_ne_zero (s : State) (d : Byte) : (s.appended d).txpos ≠ 0 := by
  have hput : ∀ u : State, u.txpos.toNat < 31 → (u.put d).txpos ≠ 0 := by
    intro u hu h0
    have : u.txpos + 1 = 0 := h0
    bv_omega
  obtain ⟨-, -, -, hempty, -⟩ := s.flushed_frame s.cfg.indContinues
  rw [State.appended]
  split
  · exact hput _ (by rw [hempty]; decide)
  · exact hput _ (by omega)

/-- Settles O42: END_CMD is in the buffer, so the flush hands off. -/
theorem rendSendsTheLastChunk : Obligations.RendSendsTheLastChunk := by
  intro s h
  obtain ⟨-, hlog, htx, hds⟩ := State.flushed_of_buffered s.cfg.indFinished (s.appended_txpos_ne_zero s.cfg.endCmd)
  obtain ⟨-, -, -, hempty, hcfg, -⟩ := (s.appended s.cfg.endCmd).flushed_frame s.cfg.indFinished
  obtain ⟨-, -, -, hcfg', -⟩ := s.appended_frame s.cfg.endCmd
  refine ⟨_, exec_rend_alone h, rfl, hempty, ?_, hds, ?_⟩
  · rw [hcfg, hcfg'] at htx
    exact htx
  · show (State.flushed _ _).txLog.length = _
    rw [hlog, List.length_append, List.length_singleton]

/-! ## The data bytes of WRP and WRP16 (42 R136, R138) -/

/-- Another loop counter, and another count of the free bytes used. -/
def State.counted (s : State) (i : Half) (free : Nat) : State := { s with i := i, freeCount := free }

/-- FLUSH looks at neither count. -/
theorem State.flushed_counted (s : State) (ind : Byte) (i : Half) (free : Nat) :
    (s.counted i free).flushed ind = (s.flushed ind).counted i free := by
  by_cases h : s.txpos = 0
  · rw [State.flushed, if_pos (show (s.counted i free).txpos = 0 from h), State.flushed, if_pos h]
    rfl
  · rw [State.flushed, if_neg (show ¬ (s.counted i free).txpos = 0 from h), State.flushed, if_neg h]
    rfl

theorem State.appended_counted (s : State) (d : Byte) (i : Half) (free : Nat) :
    (s.counted i free).appended d = (s.appended d).counted i free := by
  by_cases h : 31 ≤ s.txpos.toNat
  · have hflush : (s.counted i free).appended d = ((s.counted i free).flushed s.cfg.indContinues).put d := if_pos h
    rw [hflush, State.flushed_counted, State.appended, if_pos h]
    rfl
  · rw [State.appended_of_room (s := s.counted i free) d (Nat.not_le.1 h), State.appended_of_room d (Nat.not_le.1 h)]
    rfl

theorem State.appendedAll_counted (s : State) (ds : List Byte) (i : Half) (free : Nat) :
    (s.counted i free).appendedAll ds = (s.appendedAll ds).counted i free :=
  List.foldl_hom (fun u : State => u.counted i free) fun u d => u.appended_counted d i free

theorem State.appendedAll_silent {s : State} (ds : List Byte) (he : s.env = []) (hh : s.held = []) :
    (s.appendedAll ds).env = [] ∧ (s.appendedAll ds).held = [] := by
  induction ds generalizing s with
  | nil => exact ⟨he, hh⟩
  | cons d ds ih => exact ih (State.appended_env d he) (State.appended_held d hh)

theorem State.pinBytes_congr {s t : State} {n : Nat} (hbuf : t.inBuf = s.inBuf) (hfree : t.freeCount = s.freeCount) :
    t.pinBytes n = s.pinBytes n := by
  rw [State.pinBytes, State.pinBytes, hbuf, hfree]

/-- The next `n` data bytes, from IN[I] on. -/
def State.dataFrom (s : State) (n : Nat) : List Byte := ({ s with inBuf := s.inBuf.drop s.i.toNat } : State).pinBytes n

/-- How many free bytes have been used after these. -/
def State.freeAfter (s : State) (n : Nat) : Nat := s.freeCount + (n - (s.inBuf.drop s.i.toNat).length)

theorem State.data_succ (s : State) (n : Nat) {i : Half} (hi : i.toNat = s.i.toNat + 1) :
    s.dataFrom (n + 1) = s.dataByte :: (s.counted i s.freeCountAfter).dataFrom n ∧
      s.freeAfter (n + 1) = (s.counted i s.freeCountAfter).freeAfter n := by
  have htail : s.inBuf.drop i.toNat = (s.inBuf.drop s.i.toNat).tail := by rw [hi, List.tail_drop]
  have hhead : s.inBuf[s.i.toNat]? = (s.inBuf.drop s.i.toNat).head? := List.head?_drop.symm
  cases hdrop : s.inBuf.drop s.i.toNat with
  | nil =>
    rw [hdrop] at htail hhead
    have hbyte : s.dataByte = Config.unsuppliedByte s.freeCount := by simp [State.dataByte, hhead]
    have hfree : s.freeCountAfter = s.freeCount + 1 := by simp [State.freeCountAfter, hhead]
    constructor
    · simp [State.dataFrom, State.pinBytes, State.counted, hdrop, htail, hbyte, hfree, List.range_succ_eq_map,
        Function.comp_def, Nat.add_comm, Nat.add_left_comm]
    · simp [State.freeAfter, State.counted, hdrop, htail, hfree]
      omega
  | cons b rest =>
    rw [hdrop] at htail hhead
    have hbyte : s.dataByte = b := by simp [State.dataByte, hhead]
    have hfree : s.freeCountAfter = s.freeCount := by simp [State.freeCountAfter, hhead]
    constructor
    · simp [State.dataFrom, State.pinBytes, State.counted, hdrop, htail, hbyte, hfree]
    · simp [State.freeAfter, State.counted, hdrop, htail, hfree]

/-- What the loop of WRP and WRP16 leaves after these bytes, the last of which the counter stands at. -/
def State.looped (s : State) (n : Nat) : State :=
  (s.appendedAll (s.dataFrom n)).counted (s.i + BitVec.ofNat 16 (n - 1)) (s.freeAfter n)

/-- The WRB of IN[I], the free byte used. -/
def State.datum (s : State) : State := (s.counted s.i s.freeCountAfter).appended s.dataByte

theorem State.datum_eq (s : State) : s.datum = (s.appended s.dataByte).counted s.i s.freeCountAfter :=
  s.appended_counted _ _ _

theorem State.looped_one (s : State) (hi : (s.i + 1).toNat = s.i.toNat + 1) : s.looped 1 = s.datum := by
  obtain ⟨hdata, hfree⟩ := s.data_succ 0 hi
  rw [State.looped, hdata, hfree, State.datum_eq]
  simp [State.dataFrom, State.pinBytes, State.freeAfter, State.counted, State.appendedAll]

theorem State.looped_succ (s : State) (n : Nat) (hi : (s.i + 1).toNat = s.i.toNat + 1) :
    s.looped (n + 2) = ({ s.datum with i := s.i + 1 } : State).looped (n + 1) := by
  obtain ⟨hdata, hfree⟩ := s.data_succ (n + 1) hi
  obtain ⟨-, -, -, -, -, hbuf, -⟩ := s.appended_frame s.dataByte
  have hnext : ({ s.datum with i := s.i + 1 } : State) = (s.appended s.dataByte).counted (s.i + 1) s.freeCountAfter := by
    rw [State.datum_eq]
    rfl
  have hindex : s.i + BitVec.ofNat 16 (n + 1) = s.i + 1 + BitVec.ofNat 16 n := by bv_omega
  have hsame : ((s.appended s.dataByte).counted (s.i + 1) s.freeCountAfter).dataFrom (n + 1) =
      (s.counted (s.i + 1) s.freeCountAfter).dataFrom (n + 1) := by
    simp only [State.dataFrom, State.pinBytes, State.counted, hbuf]
  have hfree' : ((s.appended s.dataByte).counted (s.i + 1) s.freeCountAfter).freeAfter (n + 1) =
      (s.counted (s.i + 1) s.freeCountAfter).freeAfter (n + 1) := by
    simp only [State.freeAfter, State.counted, hbuf]
  rw [hnext, State.looped, State.looped, hdata, hfree, hsame, hfree', State.appendedAll_counted]
  exact congrArg (fun x => (((s.appended s.dataByte).appendedAll _).counted x _)) hindex

theorem State.datum_i (s : State) : s.datum.i = s.i := by
  rw [State.datum_eq]
  rfl

theorem State.datum_env {s : State} (he : s.env = []) : s.datum.env = [] :=
  State.appended_env (s := s.counted s.i s.freeCountAfter) s.dataByte he

theorem State.datum_held {s : State} (hh : s.held = []) : s.datum.held = [] :=
  State.appended_held (s := s.counted s.i s.freeCountAfter) s.dataByte hh

theorem State.looped_of_start (s : State) (n : Nat) :
    ({ s with i := 0 } : State).looped (n + 1) =
      (s.appendedAll (s.pinBytes (n + 1))).counted (BitVec.ofNat 16 n) (s.freeCount + (n + 1 - s.inBuf.length)) := by
  rw [State.looped, show ({ s with i := 0 } : State) = s.counted 0 s.freeCount from rfl, State.appendedAll_counted]
  simp [State.dataFrom, State.pinBytes, State.freeAfter, State.counted]

section Loop

variable {s : State} {op : Instr} {len : Half} {back : List Label}

/-- The WRB of one byte. -/
theorem datum_comes (he : s.env = []) (hh : s.held = []) :
    Comes (s.appendDatum op len back) (s.datum.goTo op (.dataLoop len) back) :=
  wrb_called_comes (s := s.counted s.i s.freeCountAfter) he hh

/-- The last byte is appended. -/
theorem data_last_comes (he : s.env = []) (hh : s.held = []) (hlast : s.i.toNat + 1 = len.toNat) :
    Comes (s.datum.goTo op (.dataLoop len) back) (s.datum.finish op 0 back) := by
  have hend : ¬ s.datum.i.toNat + 1 < len.toNat := by rw [s.datum_i]; omega
  have := Comes.quiet (s := s.datum.goTo op (.dataLoop len) back) (State.datum_env he) (State.datum_held hh) rfl
    (congrArg Host.Outcome.next (if_neg hend))
  cases back <;> exact this

/-- Another byte is to be appended. -/
theorem data_more_comes (he : s.env = []) (hh : s.held = []) (hmore : s.i.toNat + 1 < len.toNat) :
    Comes (s.datum.goTo op (.dataLoop len) back)
      (({ s.datum with i := s.i + 1 } : State).appendDatum op len back) := by
  rw [← s.datum_i] at hmore ⊢
  exact .quiet (State.datum_env he) (State.datum_held hh) rfl (congrArg Host.Outcome.next (if_pos hmore))

end Loop

section Operations

variable {op : Instr} {len : Half} {back : List Label}

/-- The loop from the WRB of one byte on. -/
theorem data_loop_comes (n : Nat) {s : State} (he : s.env = []) (hh : s.held = [])
    (hlen : len.toNat = s.i.toNat + (n + 1)) :
    Comes (s.appendDatum op len back) ((s.looped (n + 1)).finish op 0 back) := by
  have hbelow := len.isLt
  induction n generalizing s with
  | zero =>
    rw [s.looped_one (by bv_omega)]
    exact (datum_comes he hh).trans (data_last_comes he hh hlen.symm)
  | succ n ih =>
    have hi : (s.i + 1).toNat = s.i.toNat + 1 := by bv_omega
    rw [s.looped_succ n hi]
    exact ((datum_comes he hh).trans (data_more_comes he hh (by omega))).trans
      (ih (s := { s.datum with i := s.i + 1 }) (State.datum_env he) (State.datum_held hh) (by simp only [hi]; omega))

/-- The loop from its start. -/
theorem data_comes {s : State} (he : s.env = []) (hh : s.held = []) :
    Comes (s.goTo op (.dataStart len) back)
      (((s.appendedAll (s.pinBytes len.toNat)).counted (BitVec.ofNat 16 (len.toNat - 1))
        (s.freeCount + (len.toNat - s.inBuf.length))).finish op 0 back) := by
  cases hlen : len.toNat with
  | zero =>
    have hnone : ¬ 0 < len.toNat := by omega
    have hend : Comes (s.goTo op (.dataStart len) back) (({ s with i := 0 } : State).finish op 0 back) := by
      have := Comes.quiet (s := s.goTo op (.dataStart len) back) he hh rfl (congrArg Host.Outcome.next (if_neg hnone))
      cases back <;> exact this
    simpa [State.pinBytes, State.appendedAll, State.counted] using hend
  | succ n =>
    have hsome : 0 < len.toNat := by omega
    have hstart : Comes (s.goTo op (.dataStart len) back) (({ s with i := 0 } : State).appendDatum op len back) :=
      .quiet he hh rfl (congrArg Host.Outcome.next (if_pos hsome))
    have hloop := data_loop_comes (op := op) (len := len) (back := back) n (s := { s with i := 0 }) he hh
      (by simpa using hlen)
    rw [State.looped_of_start] at hloop
    exact hstart.trans hloop

/-- The data bytes, and `done(0)`. -/
theorem data_done_comes {s : State} (he : s.env = []) (hh : s.held = []) :
    Comes (s.goTo op (.dataStart len) [.dataDone])
      (((s.appendedAll (s.pinBytes len.toNat)).counted (BitVec.ofNat 16 (len.toNat - 1))
        (s.freeCount + (len.toNat - s.inBuf.length))).finish op 0 []) := by
  have hframe := fun ds : List Byte => State.appendedAll_silent (s := s) ds he hh
  exact (data_comes he hh).trans (.quiet (hframe _).1 (hframe _).2 rfl rfl)

end Operations

/-- Settles O40: the length byte, then the data bytes. -/
theorem wrpAppendsTheParameter : Obligations.WrpAppendsTheParameter := by
  intro s len h
  obtain ⟨-, he, hh⟩ := id h
  obtain ⟨-, -, -, -, -, hbuf, hfree⟩ := s.appended_frame len
  have hu1 : Comes (s.goTo (.wrp len) (.u1 len) [.dataStart (lenOfByte len), .dataDone])
      (s.goTo (.wrp len) (.w1 len) [.dataStart (lenOfByte len), .dataDone]) := .quiet he hh rfl rfl
  have hdata := data_done_comes (op := .wrp len) (len := lenOfByte len)
    (State.appended_env len he) (State.appended_held len hh)
  have hlen : (lenOfByte len).toNat = len.toNat := by
    have := len.isLt
    rw [lenOfByte, BitVec.toNat_setWidth, Nat.mod_eq_of_lt (by omega)]
  rw [hlen, hbuf, hfree, State.pinBytes_congr hbuf hfree] at hdata
  exact exec_alone rfl h ((hu1.trans (wrb_called_comes he hh)).trans hdata) rfl

/-- Settles O41: the two length bytes, then the data bytes. -/
theorem wrp16AppendsTheParameter : Obligations.Wrp16AppendsTheParameter := by
  intro s len h
  obtain ⟨-, he, hh⟩ := id h
  have he₁ := State.appended_env (lenHigh len) he
  have hh₁ := State.appended_held (lenHigh len) hh
  obtain ⟨-, -, -, -, -, hbuf₁, hfree₁⟩ := s.appended_frame (lenHigh len)
  obtain ⟨-, -, -, -, -, hbuf₂, hfree₂⟩ := (s.appended (lenHigh len)).appended_frame (lenLow len)
  have hbuf := hbuf₂.trans hbuf₁
  have hfree := hfree₂.trans hfree₁
  have hv1 : Comes (s.goTo (.wrp16 len) (.v1 len) [.dataStart len, .dataDone])
      (s.goTo (.wrp16 len) (.w1 (lenHigh len)) [.v2 len, .dataStart len, .dataDone]) := .quiet he hh rfl rfl
  have hv2 : Comes ((s.appended (lenHigh len)).goTo (.wrp16 len) (.v2 len) [.dataStart len, .dataDone])
      ((s.appended (lenHigh len)).goTo (.wrp16 len) (.w1 (lenLow len)) [.dataStart len, .dataDone]) :=
    .quiet he₁ hh₁ rfl rfl
  have hdata := data_done_comes (op := .wrp16 len) (len := len)
    (State.appended_env (lenLow len) he₁) (State.appended_held (lenLow len) hh₁)
  rw [hbuf, hfree, State.pinBytes_congr hbuf hfree] at hdata
  exact exec_alone rfl h
    ((((hv1.trans (wrb_called_comes he hh)).trans hv2).trans (wrb_called_comes he₁ hh₁)).trans hdata) rfl

end Sys2Proof.Machine
end

section
/-! The two state machines of the spec (41 R124, 42 R152). -/

namespace Sys2Proof.Machine

open Sys2Proof

/-! ## A pause in the middle of an operation, and the step after it -/

/-- An operation that has come to a pause, the last turn of the schedule, in which nothing happens, stands there. -/
theorem exec_of_pause {i : Instr} {s t : State} {n : Nat} {first : Label} {back : List Label}
    (h : startOf i = some (first, back)) (hs : s.fg = .idle) (hreach : Reaches n (s.goTo i first back) t)
    (hh : t.held = []) (he : t.env = [⟨[], true⟩]) (hn : n < 1048576) : exec i s = .next { t with env := [] } := by
  have hbudget : s.budget = n + (1048575 - n + s.env.length + 1) := by rw [State.budget]; omega
  have hp : t.pauseDue = true := by rw [State.pauseDue, he]
  rw [exec_of_start h, ← State.environment_empty hh he]
  simp only [State.perform, hs]
  rw [hbudget, State.runOn_reaches hreach, State.runOn_paused _ _ hp]

/-- A step goes on with the operation in progress to its end. -/
theorem step_of_leads {s t : State} {n : Nat} {op : Instr} {r : Half} {next : Label} {back : List Label}
    (hs : s.fg = .running op r next back) (h : Leads n s t) (ht : t.fg = .idle) (hn : n < 1048576) :
    step s = .next t := by
  obtain ⟨u, hu, -, ha⟩ := h
  rw [step_of_running hs]
  exact State.runOn_completes hu ha ht (by rw [State.budget]; omega)

/-- One transition in whose turn nothing happens. -/
theorem Reaches.empty_turn {s t : State} {op op' : Instr} {r r' : Half} {next next' : Label} {back back' : List Label}
    {rest : List Turn} (hh : s.held = []) (he : s.env = ⟨[], false⟩ :: rest) (hs : s.fg = .running op r next back)
    (ha : ({ s with env := rest } : State).atomic op r next back = .next t)
    (ht : t.fg = .running op' r' next' back') : Reaches 1 s t :=
  .turn (State.pauseDue_cons he) (State.environment_empty hh he) hs ha ht

/-! ## The transmit side (42 R152) -/

/-- The exit of TX_WAITACK by the timeout. -/
theorem step_of_waitAck {s : State} {op : Instr} {r : Half} (hs : s.fg = .running op r .f3 []) (he : s.env = [])
    (hh : s.held = []) (hd : s.dataSent = false) (ht : s.t0 = s.now) : ∃ u, step s = .next u ∧ u.txOffered := by
  obtain ⟨n, hn, hlead⟩ := flush_wait_leads he hh hs hd ht
  exact ⟨_, step_of_leads hs hlead rfl (by omega), rfl, rfl⟩

/-- FLUSH looked at in its wait. -/
theorem exec_flush_paused {s : State} (ind : Byte) (h : s.alone) (h0 : s.txpos ≠ 0) :
    exec (.flush ind) { s with env := [⟨[], false⟩, ⟨[], false⟩, ⟨[], true⟩] } =
      .next (({ s with ind := ind, t0 := s.now } : State).goTo (.flush ind) .f3 []) := by
  obtain ⟨hs, he, hh⟩ := h
  have hf1 : Reaches 1 (({ s with env := [⟨[], false⟩, ⟨[], false⟩, ⟨[], true⟩] } : State).goTo (.flush ind) (.f1 ind) [])
      (({ s with ind := ind, env := [⟨[], false⟩, ⟨[], true⟩] } : State).goTo (.flush ind) .f2 []) :=
    .empty_turn hh rfl rfl (congrArg Host.Outcome.next (if_neg h0)) rfl
  have hf2 : Reaches 1 (({ s with ind := ind, env := [⟨[], false⟩, ⟨[], true⟩] } : State).goTo (.flush ind) .f2 [])
      (({ s with ind := ind, t0 := s.now, env := [⟨[], true⟩] } : State).goTo (.flush ind) .f3 []) :=
    .empty_turn hh rfl rfl rfl rfl
  have hpaused := exec_of_pause (s := { s with env := [⟨[], false⟩, ⟨[], false⟩, ⟨[], true⟩] }) (n := 1 + 1) rfl hs
    (hf1.trans hf2) hh rfl (by decide)
  exact hpaused.trans (congrArg (fun e =>
    Host.Outcome.next (({ s with ind := ind, t0 := s.now, env := e } : State).goTo (.flush ind) .f3 [])) he.symm)

/-- Settles O46. -/
theorem transmitPhasesFollowTheTable : Obligations.TransmitPhasesFollowTheTable := by
  intro s h _
  refine ⟨fun cmd n => ⟨_, rstartWritesTheHeader s cmd n h, rfl⟩, fun h0 ind => ?_, ?_, fun hirq => ?_, fun h0 hd ind => ?_⟩
  · exact ⟨_, exec_flush_alone ind h, (State.flushed_of_buffered ind h0).2.2⟩
  · exact ⟨_, exec_rend_alone h,
      (State.flushed_of_buffered s.cfg.indFinished (s.appended_txpos_ne_zero s.cfg.endCmd)).2.2⟩
  · simp [State.applyMove, hirq, State.txIdle]
  · exact ⟨_, exec_flush_paused ind h h0, ⟨_, _, _, rfl⟩, step_of_waitAck rfl h.2.1 h.2.2 hd rfl⟩

/-! ## The receive side (41 R124) -/

theorem indContinues_ne_indFinished {c : Config} (h : c.valid = true) : c.indContinues ≠ c.indFinished := by
  simp only [Config.valid, Config.indicatorsDiffer, Bool.and_eq_true, bne_iff_ne] at h
  obtain ⟨⟨⟨⟨⟨hne, -⟩, -⟩, -⟩, -⟩, -⟩ := h
  exact hne

theorem State.chunkTagged_iff {s : State} : s.chunkTagged = true ↔ tagged s.cfg s.rxbuf := by
  simp [State.chunkTagged, isIndicator, tagged]

/-- Out of RX_AVAIL. -/
theorem exec_rxacc_phase {s : State} (h : s.alone) (havail : s.rxAvail) :
    ∃ t, exec .rxacc s = .next t ∧ ¬ t.rxAvail ∧
      (tagged s.cfg s.xbuf → t.rxDrain ∧ t.rxpos = 1 ∧ ¬ t.rxDead) ∧ (¬ tagged s.cfg s.xbuf → t.rxDead) := by
  obtain ⟨hd, hbusy, -⟩ := havail
  by_cases ht : tagged s.cfg s.xbuf
  · refine ⟨_, exec_rxacc_tagged h hd ht, ?_, fun _ => ⟨?_, rfl, ?_⟩, fun hn => absurd ht hn⟩
    · rintro ⟨-, -, huncopied⟩
      cases huncopied
    · exact ⟨Nat.le_refl 1, (by decide : 1 ≤ 32), State.chunkTagged_iff.2 ht, hbusy⟩
    · rintro ⟨hpos, -, -⟩
      cases hpos
  · refine ⟨_, exec_rxacc_untagged h hd ht, ?_, fun hn => absurd hn ht, fun _ => ⟨rfl, fun hc => ht (.inl hc), rfl⟩⟩
    rintro ⟨-, -, huncopied⟩
    cases huncopied

theorem exec_rxdone_alone {s : State} (h : s.alone) :
    exec .rxdone s = .next (({ s.flagCleared.parked with rxstate := s.cfg.rxReady } : State).finished 0) := by
  obtain ⟨hs, he, hh⟩ := h
  exact exec_rxdone_of_turns hs (by simp [State.noReset, he, hh]) (by simp [State.noPause, he])
    (s.environment_quiet he hh) (State.environment_quiet _ he hh) (State.environment_quiet _ he hh)

/-- To RX_IDLE. -/
theorem exec_rxdone_phase {s : State} (h : s.alone) (hvalid : s.cfg.valid = true) :
    ∃ t, exec .rxdone s = .next t ∧ t.rxIdle ∧ t.readClosed ∧ ¬ t.rxDead := by
  refine ⟨_, exec_rxdone_alone h, ⟨rfl, rfl, ?_⟩, ?_, ?_⟩
  · rintro ⟨_, _, _, hfg⟩
    cases hfg
  · exact State.invalidate_readClosed (s := { s with rxpos := 32 }) hvalid (Nat.le_refl 32)
  · rintro ⟨-, -, hfailed⟩
    cases hfailed

/-- RDB below the boundary stays in RX_DRAIN. -/
theorem exec_rdb_drains {s : State} (h : s.alone) (hdrain : s.rxDrain) (hlt : s.rxpos.toNat < 32) :
    ∃ t, exec .rdb s = .next t ∧ t.rxDrain := by
  obtain ⟨-, -, htag, hbusy⟩ := hdrain
  have hnext : (s.rxpos + 1).toNat = s.rxpos.toNat + 1 := by bv_omega
  refine ⟨_, exec_rdb_in_chunk h (Vector.getElem?_eq_getElem hlt), ?_, ?_, htag, hbusy⟩
  · exact hnext.symm ▸ Nat.le_add_left 1 _
  · exact hnext.symm ▸ hlt

/-- B3 to B6, nothing happening before any of them. -/
theorem rdb_invites_empty_reaches {s : State} {op : Instr} {back : List Label} {rest : List Turn} (hh : s.held = [])
    (he : s.env = ⟨[], false⟩ :: ⟨[], false⟩ :: ⟨[], false⟩ :: ⟨[], false⟩ :: rest) :
    Reaches 4 (s.goTo op .b3 back) (({ s.invited with t0 := s.now, env := rest } : State).goTo op .b7 back) := by
  have hb3 : Reaches 1 (s.goTo op .b3 back) (({ s.flagCleared with
      env := ⟨[], false⟩ :: ⟨[], false⟩ :: ⟨[], false⟩ :: rest } : State).goTo op .b4 back) :=
    .empty_turn hh he rfl rfl rfl
  have hb4 : Reaches 1 (({ s.flagCleared with
        env := ⟨[], false⟩ :: ⟨[], false⟩ :: ⟨[], false⟩ :: rest } : State).goTo op .b4 back)
      (({ s.flagCleared.invalidate with env := ⟨[], false⟩ :: ⟨[], false⟩ :: rest } : State).goTo op .b5 back) :=
    .empty_turn hh rfl rfl rfl rfl
  have hb5 : Reaches 1 (({ s.flagCleared.invalidate with
        env := ⟨[], false⟩ :: ⟨[], false⟩ :: rest } : State).goTo op .b5 back)
      (({ s.invited with env := ⟨[], false⟩ :: rest } : State).goTo op .b6 back) :=
    .empty_turn hh rfl rfl rfl rfl
  have hb6 : Reaches 1 (({ s.invited with env := ⟨[], false⟩ :: rest } : State).goTo op .b6 back)
      (({ s.invited with t0 := s.now, env := rest } : State).goTo op .b7 back) :=
    .empty_turn hh rfl rfl rfl rfl
  exact ((hb3.trans hb4).trans hb5).trans hb6

/-- RDB looked at in its wait. -/
theorem exec_rdb_paused {s : State} (h : s.alone) (hb : 32 ≤ s.rxpos.toNat) (hc : s.rxbuf[0] = s.cfg.indContinues) :
    exec .rdb { s with env := List.replicate 6 ⟨[], false⟩ ++ [⟨[], true⟩] } =
      .next (({ s.invited with t0 := s.now } : State).goTo .rdb .b7 []) := by
  obtain ⟨hs, he, hh⟩ := h
  have hb1 : Reaches 1 (({ s with env := List.replicate 6 ⟨[], false⟩ ++ [⟨[], true⟩] } : State).goTo .rdb .b1 [])
      (({ s with env := List.replicate 5 ⟨[], false⟩ ++ [⟨[], true⟩] } : State).goTo .rdb .b2 []) :=
    .empty_turn hh rfl rfl (congrArg Host.Outcome.next (if_neg (Nat.not_lt.2 hb))) rfl
  have hb2 : Reaches 1 (({ s with env := List.replicate 5 ⟨[], false⟩ ++ [⟨[], true⟩] } : State).goTo .rdb .b2 [])
      (({ s with env := List.replicate 4 ⟨[], false⟩ ++ [⟨[], true⟩] } : State).goTo .rdb .b3 []) :=
    .empty_turn hh rfl rfl (congrArg Host.Outcome.next (if_pos hc)) rfl
  have hreach := (hb1.trans hb2).trans (rdb_invites_empty_reaches (rest := [⟨[], true⟩])
    (s := { s with env := List.replicate 4 ⟨[], false⟩ ++ [⟨[], true⟩] }) hh rfl)
  have hpaused := exec_of_pause (s := { s with env := List.replicate 6 ⟨[], false⟩ ++ [⟨[], true⟩] }) rfl hs hreach hh
    rfl (by decide)
  exact hpaused.trans (congrArg (fun e =>
    Host.Outcome.next (({ s.invited with t0 := s.now, env := e } : State).goTo .rdb .b7 [])) he.symm)

/-- The exit of RX_WAIT by the timeout. -/
theorem step_of_wait {s : State} {r : Half} (hs : s.fg = .running .rdb r .b7 []) (he : s.env = []) (hh : s.held = [])
    (hd : s.dataReceived = false) (ht : s.t0 = s.now) :
    step s = .next (({ s with now := s.now + s.cfg.rxTimeoutMs } : State).failRead .rxTimeout) := by
  obtain ⟨n, hn, hlead⟩ := rdb_deadline_leads he hh hs hd ht
  exact step_of_leads hs hlead rfl (by omega)

/-- The exit of RX_WAIT by a chunk. -/
theorem step_of_delivery {s : State} {r : Half} {chunk : Chunk} {ref : Nat} (hs : s.fg = .running .rdb r .b7 [])
    (hpos : s.rxpos = 32) (hh : s.held = []) (hirq : s.irqOff = false) (he : s.env = [⟨[.rx chunk ref], false⟩]) :
    ∃ t, step s = .next t ∧ (tagged s.cfg chunk → t.rxDrain ∧ t.rxpos = 2) ∧ (¬ tagged s.cfg chunk → t.rxDead) := by
  have hb7 : Reaches 1 s ((({ s with env := [] } : State).chunkReceived chunk ref).goTo .rdb .b8 []) :=
    .turn (State.pauseDue_cons he) (State.environment_delivery hh hirq he) hs
      (congrArg Host.Outcome.next (stepB7_flag .rdb [] rfl)) rfl
  have hb8 : Reaches 1 ((({ s with env := [] } : State).chunkReceived chunk ref).goTo .rdb .b8 [])
      ((({ s with env := [] } : State).chunkReceived chunk ref).copyChunk.goTo .rdb .b8v []) := .quiet rfl hh rfl rfl rfl
  by_cases ht : tagged s.cfg chunk
  · have hb8v := (hb7.trans hb8).trans
      (.quiet rfl hh rfl (congrArg Host.Outcome.next (if_pos (isIndicator_of_tagged ht))) rfl)
    have hb8r := hb8v.trans (.quiet rfl hh rfl rfl rfl)
    refine ⟨_, step_of_leads hs (.after hb8r (.quiet rfl hh rfl rfl)) rfl (by decide), fun _ => ?_, fun hn => absurd ht hn⟩
    exact ⟨⟨(by decide : 1 ≤ 2), (by decide : 2 ≤ 32), State.chunkTagged_iff.2 ht, rfl⟩, rfl⟩
  · have hbad : ¬ isIndicator s.cfg chunk[0] = true := by simpa [isIndicator, tagged] using ht
    have hb8v := Leads.after (hb7.trans hb8) (.quiet rfl hh rfl (congrArg Host.Outcome.next (if_neg hbad)))
    exact ⟨_, step_of_leads hs hb8v rfl (by decide), fun hn => absurd hn ht, fun _ => ⟨hpos, fun hc => ht (.inl hc), rfl⟩⟩

/-- Settles O34. -/
theorem receivePhasesFollowTheTable : Obligations.ReceivePhasesFollowTheTable := by
  refine ⟨fun s h hvalid => ⟨?_, exec_rxacc_phase h, exec_rxdone_phase h hvalid, exec_rdb_drains h, ?_, ?_, ?_⟩, ?_⟩
  · intro c ref hirq
    simp [State.applyMove, hirq, State.rxAvail]
  · intro hdrain hpos hfin
    have hclosed : s.readClosed := ⟨hpos.ge, fun hc => indContinues_ne_indFinished hvalid (hc.symm.trans hfin)⟩
    exact ⟨_, exec_rdb_closed h hclosed, hdrain, rfl⟩
  · intro _ hpos hcont
    refine ⟨_, _, exec_rdb_paused h hpos.ge hcont, ⟨⟨_, _, _, rfl⟩, rfl, rfl, ?_⟩, step_of_wait rfl h.2.1 h.2.2 rfl rfl,
      ⟨?_, ?_, rfl⟩, rfl, rfl⟩
    · simp [State.invited, State.invalidate]
    · exact BitVec.eq_of_toNat_eq hpos
    · exact (State.invalidate_readClosed hvalid hpos.ge).2
  · rintro hdead
    obtain ⟨hpos, hne, -⟩ := id hdead
    exact ⟨_, exec_rdb_closed h ⟨hpos ▸ Nat.le_refl 32, hne⟩, hdead, rfl⟩
  · intro s r c ref _ _ hs hpos hh hirq he
    exact step_of_delivery hs hpos hh hirq he

end Sys2Proof.Machine
end

section
/-! The chunks of a reply, padded and fed to a receive engine (spec 42 R150). -/

namespace Sys2Proof.Machine

open Sys2Proof

/-! ## Padding (20 R47) -/

theorem padded_zero (b : Byte) (bs : List Byte) : (padded (b :: bs))[0] = b := by
  simp [padded]

/-- The payload of a padded chunk is the chunk's payload and zero bytes. -/
theorem payload_padded (b : Byte) {bs : List Byte} (h : bs.length ≤ 31) :
    payload (padded (b :: bs)) = bs ++ List.replicate (31 - bs.length) 0 := by
  refine List.ext_getElem (by simp [payload, padded]; omega) fun k hk _ => ?_
  have hk' : k < 31 := by simpa [payload] using hk
  by_cases hin : k < bs.length
  · simp [payload, padded, hin]
  · simp [payload, padded, List.getElem_append_right (Nat.not_lt.1 hin), List.getElem?_eq_none (Nat.not_lt.1 hin)]

/-! ## A chunk stream, padded (30 R67) -/

/-- The padded chunks of a message are tagged as one, and their payloads are the message and the pad bytes of the last
chunk. -/
theorem chunkStream_padded (c : Config) (m : List Byte) (hne : m ≠ []) :
    TaggedAsMessage c ((chunkStream c m).map padded) ∧
      ∃ k, ((chunkStream c m).map padded).flatMap payload = m ++ List.replicate k 0 := by
  by_cases hlast : m.length ≤ 31
  · rw [chunkStream_last c hne hlast]
    refine ⟨taggedAsMessage_singleton.2 (padded_zero _ _), 31 - m.length, ?_⟩
    rw [List.map_singleton, List.flatMap_singleton, payload_padded _ hlast]
  · have hhead : (m.take 31).length = 31 := by rw [List.length_take]; omega
    have hrest : m.drop 31 ≠ [] := by
      intro h
      have := List.length_eq_zero_iff.2 h
      rw [List.length_drop] at this
      omega
    obtain ⟨htag, k, hpayload⟩ := chunkStream_padded c (m.drop 31) hrest
    have hstream := chunkStream_cons c hhead hrest
    rw [List.take_append_drop] at hstream
    rw [hstream, List.map_cons]
    refine ⟨?_, k, ?_⟩
    · cases hchunks : (chunkStream c (m.drop 31)).map padded with
      | nil =>
        rw [hchunks, List.flatMap_nil] at hpayload
        exact absurd (List.append_eq_nil_iff.1 hpayload.symm).1 hrest
      | cons b rest => exact taggedAsMessage_cons_cons.2 ⟨padded_zero _ _, hchunks ▸ htag⟩
    · rw [List.flatMap_cons, hpayload, payload_padded _ hhead.le, hhead, Nat.sub_self, List.replicate_zero,
        List.append_nil, ← List.append_assoc, List.take_append_drop]
termination_by m.length
decreasing_by
  rw [List.length_drop]
  have := List.length_pos_iff.2 hne
  omega

/-- Settles O45: the hand-offs are the chunks of the message, and those are read back as it. -/
theorem replyReadsBackAsItsMessage : Obligations.ReplyReadsBackAsItsMessage := by
  intro s u cmd n ps c0 ds hidle hr hp hfits hcfg halone hvalid hirq hrecv hxbuf hd
  obtain ⟨t, hrun, -, -, hlog⟩ := replyIsHandedOffAsItsChunkStream s cmd n ps hidle hr hp hfits
  refine ⟨t, hrun, fun hfed => ?_⟩
  rw [hlog, List.map_append] at hfed
  have hchunks := List.append_cancel_left hfed
  obtain ⟨htag, k, hpayload⟩ := chunkStream_padded s.cfg (replyBytes s.cfg cmd n ps) (by simp [replyBytes])
  rw [hchunks] at htag hpayload
  obtain ⟨hcont, hfin⟩ := htag
  obtain ⟨a, r0, b, rs, v, haccept, -, hmany, hrest, hbytes, -⟩ :=
    readerReassemblesTheMessage u c0 ds halone (hcfg ▸ hvalid) hirq hrecv hxbuf (hcfg ▸ hd) (hcfg ▸ hcont) (hcfg ▸ hfin)
  exact ⟨a, r0, b, rs, v, k, haccept, hmany, hrest, hpayload ▸ hbytes⟩

end Sys2Proof.Machine
end

section
/-! Waiting under suppression (spec 70 R218). -/

namespace Sys2Proof.Machine

open Sys2Proof

/-! ## An operation that waits in vain -/

/-- The labels on the sequencer and the state meet `stands`, or the operation has ended and the state meets `ended`. -/
def Foreground.Meets (stands : List Label → State → Prop) (ended : State → Prop) (s : State) : Foreground → Prop
  | .idle => ended s
  | .running _ _ next back => stands (next :: back) s

/-- Notifications are suppressed, XBUF is as it was, and the operation stands or has ended as it should. -/
def State.InVain (xb : Chunk) (stands : List Label → State → Prop) (ended : State → Prop) (s : State) : Prop :=
  s.irqOff = true ∧ s.xbuf = xb ∧ Foreground.Meets stands ended s s.fg

section InVain

variable {xb : Chunk} {stands : List Label → State → Prop} {ended : State → Prop} {s t : State} {op : Instr}
  {first : Label} {back : List Label}

theorem State.InVain.ite {p : Prop} [Decidable p] (hs : p → s.InVain xb stands ended)
    (ht : ¬ p → t.InVain xb stands ended) : (if p then s else t).InVain xb stands ended := by
  by_cases hp : p
  · rw [if_pos hp]
    exact hs hp
  · rw [if_neg hp]
    exact ht hp

/-- Under suppression a turn changes the time, the schedule and what is held back alone. -/
theorem State.InVain.environment
    (hturn : ∀ (u : State) nw ev hd stack, stands stack u → stands stack { u with now := nw, env := ev, held := hd })
    (hdone : ∀ (u : State) nw ev hd, ended u → ended { u with now := nw, env := ev, held := hd })
    (h : s.InVain xb stands ended) (hr : s.noResetInTurn = true) : s.environment.InVain xb stands ended := by
  obtain ⟨hirq, hxbuf, hmeets⟩ := h
  obtain ⟨nw, e⟩ := State.environment_suppressed hirq hr
  have hkeeps : ∀ f nw ev hd, Foreground.Meets stands ended s f →
      Foreground.Meets stands ended { s with now := nw, env := ev, held := hd } f := by
    intro f nw ev hd hf
    cases f with
    | idle => exact hdone s nw ev hd hf
    | running _ _ _ _ => exact hturn s nw ev hd _ hf
  rw [e]
  exact ⟨hirq, hxbuf, hkeeps _ _ _ _ hmeets⟩

theorem exec_in_vain {i : Instr} (hi : startOf i = some (first, back))
    (hturn : ∀ (u : State) nw ev hd stack, stands stack u → stands stack { u with now := nw, env := ev, held := hd })
    (hdone : ∀ (u : State) nw ev hd, ended u → ended { u with now := nw, env := ev, held := hd })
    (hatomic : ∀ (u v : State) op r next back, u.irqOff = true → u.xbuf = xb → stands (next :: back) u →
      u.atomic op r next back = .next v → v.InVain xb stands ended)
    (hs : s.fg = .idle) (hirq : s.irqOff = true) (hxbuf : s.xbuf = xb) (hr : s.noReset = true) (hp : s.noPause = true)
    (hfirst : stands (first :: back) (s.goTo i first back)) :
    ∃ t, exec i s = .next t ∧ t.fg = .idle ∧ t.xbuf = xb ∧ ended t := by
  obtain ⟨t, hexec, hidle⟩ := exec_finishes i hs hp
  have hvain : t.InVain xb stands ended := by
    refine State.perform_keeps_calm (fun u hu => hu.environment hturn hdone) ?_ hs hr ⟨hirq, hxbuf, hfirst⟩
      ((exec_of_start hi s).symm.trans hexec)
    intro u v op r next back ⟨huirq, huxbuf, hu⟩ hfg ha
    rw [hfg] at hu
    exact hatomic u v op r next back huirq huxbuf hu ha
  obtain ⟨-, htxbuf, hended⟩ := hvain
  rw [hidle] at hended
  exact ⟨t, hexec, hidle, htxbuf, hended⟩

end InVain

/-! ## RDB -/

/-- RDB has not failed before its wait, and no notification sets the flag after B3. -/
def readsInVain : List Label → State → Prop
  | [.b1], s => 32 ≤ s.rxpos.toNat ∧ s.rxbuf[0] = s.cfg.indContinues
  | [.b2], s => s.rxbuf[0] = s.cfg.indContinues
  | [.b3], _ => True
  | [.b4], s | [.b5], s | [.b6], s | [.b7], s => s.dataReceived = false
  | _, _ => False

/-- The read has run into its timeout. -/
def State.timedOutReading (s : State) : Prop := s.res = 0xFFFF ∧ s.cause = some .rxTimeout

theorem readsInVain_turn (s : State) (nw : Millis) (ev : List Turn) (hd : List Move) (stack : List Label)
    (h : readsInVain stack s) : readsInVain stack { s with now := nw, env := ev, held := hd } := by
  match stack, h with
  | [.b1], h | [.b2], h | [.b3], h | [.b4], h | [.b5], h | [.b6], h | [.b7], h => exact h

theorem atomic_readsInVain {xb : Chunk} (s t : State) (op : Instr) (r : Half) (next : Label) (back : List Label)
    (hirq : s.irqOff = true) (hxbuf : s.xbuf = xb) (h : readsInVain (next :: back) s)
    (ha : s.atomic op r next back = .next t) : t.InVain xb readsInVain State.timedOutReading := by
  match next, back, h with
  | .b1, [], ⟨hpos, hc⟩ => cases ha; exact .ite (fun hlt => absurd hlt (Nat.not_lt.2 hpos)) fun _ => ⟨hirq, hxbuf, hc⟩
  | .b2, [], hc => cases ha; exact .ite (fun _ => ⟨hirq, hxbuf, trivial⟩) fun hn => absurd hc hn
  | .b3, [], _ => cases ha; exact ⟨hirq, hxbuf, rfl⟩
  | .b4, [], hd | .b5, [], hd | .b6, [], hd => cases ha; exact ⟨hirq, hxbuf, hd⟩
  | .b7, [], hd =>
    cases ha
    refine .ite (fun ht => absurd (ht.symm.trans hd) (by decide)) fun _ => .ite (fun _ => ⟨hirq, hxbuf, rfl, rfl⟩) fun _ => ?_
    exact ⟨(s.stay_irqOff _).trans hirq, (s.stay_xbuf _).trans hxbuf, (s.stay_dataReceived _).trans hd⟩

/-! ## FLUSH -/

/-- FLUSH hands off, and no notification sets the flag before the hand-off. -/
def flushesInVain (count : Nat) : List Label → State → Prop
  | [.f1 _], s => s.txpos ≠ 0 ∧ s.dataSent = false ∧ s.ackTimeouts = count
  | [.f2], s | [.f3], s => s.dataSent = false ∧ s.ackTimeouts = count
  | [.f4], s | [.f5], s => s.ackTimeouts = count + 1
  | _, _ => False

theorem flushesInVain_turn {count : Nat} (s : State) (nw : Millis) (ev : List Turn) (hd : List Move)
    (stack : List Label) (h : flushesInVain count stack s) :
    flushesInVain count stack { s with now := nw, env := ev, held := hd } := by
  match stack, h with
  | [.f1 _], h | [.f2], h | [.f3], h | [.f4], h | [.f5], h => exact h

theorem atomic_flushesInVain {xb : Chunk} {count : Nat} (s t : State) (op : Instr) (r : Half) (next : Label)
    (back : List Label) (hirq : s.irqOff = true) (hxbuf : s.xbuf = xb) (h : flushesInVain count (next :: back) s)
    (ha : s.atomic op r next back = .next t) :
    t.InVain xb (flushesInVain count) fun u => u.ackTimeouts = count + 1 := by
  match next, back, h with
  | .f1 _, [], ⟨h0, hd, hcount⟩ =>
    cases ha
    exact .ite (fun he => absurd he h0) fun _ => ⟨hirq, hxbuf, hd, hcount⟩
  | .f2, [], hd => cases ha; exact ⟨hirq, hxbuf, hd⟩
  | .f3, [], ⟨hd, hcount⟩ =>
    cases ha
    refine .ite (fun ht => absurd (ht.symm.trans hd) (by decide)) fun _ =>
      .ite (fun _ => ⟨hirq, hxbuf, congrArg (· + 1) hcount⟩) fun _ => ?_
    exact ⟨(s.stay_irqOff _).trans hirq, (s.stay_xbuf _).trans hxbuf, (s.stay_dataSent _).trans hd,
      (s.stay_ackTimeouts _).trans hcount⟩
  | .f4, [], hcount | .f5, [], hcount => cases ha; exact ⟨hirq, hxbuf, hcount⟩

/-- Settles O50: under suppression neither flag is set in the wait. -/
theorem waitingUnderSuppressionTimesOut : Obligations.WaitingUnderSuppressionTimesOut := by
  intro s hs hirq hr hp
  refine ⟨fun hpos hc => ?_, fun h0 hd ind => ?_⟩
  · obtain ⟨t, hexec, hidle, hxbuf, hres, hcause⟩ := exec_in_vain (i := .rdb) rfl readsInVain_turn
      (fun _ _ _ _ h => h) atomic_readsInVain hs hirq rfl hr hp ⟨hpos, hc⟩
    exact ⟨t, hexec, hidle, hres, hcause, hxbuf⟩
  · obtain ⟨t, hexec, hidle, -, hcount⟩ := exec_in_vain (i := .flush ind) rfl flushesInVain_turn
      (fun _ _ _ _ h => h) atomic_flushesInVain hs hirq rfl hr hp ⟨h0, hd, rfl⟩
    obtain ⟨u, hexec', -, hown, -⟩ := exec_flush_scheduled ind hs ⟨hr, hp⟩
    obtain rfl := Host.Outcome.next.inj (hexec.symm.trans hexec')
    rw [State.flushed, if_neg h0] at hown
    exact ⟨t, hexec, hidle, (congrArg State.res hown :), hcount, (State.own_txpos_eq hown :),
      (congrArg State.txLog hown :)⟩

end Sys2Proof.Machine
end

section
/-! Transitions in whose turns nothing happens, whether or not the schedule goes on after them; and RDB at the boundary,
the schedule going on after the delivery (spec 41 R102; 60 R164). -/

namespace Sys2Proof.Machine

open Sys2Proof

/-! ## Empty turns -/

/-- Nothing happens in the first `n` turns of the schedule; it may end before. -/
def EmptyFor (n : Nat) (env : List Turn) : Prop := ∀ turn ∈ env.take n, turn = ⟨[], false⟩

theorem EmptyFor.nil (n : Nat) : EmptyFor n [] := by
  intro turn h
  rw [List.take_nil] at h
  contradiction

theorem EmptyFor.mono {n m : Nat} {env : List Turn} (h : EmptyFor n env) (hm : m ≤ n) : EmptyFor m env :=
  fun turn ht => h turn (List.take_subset_take_left env hm ht)

theorem EmptyFor.drop {n m : Nat} {env : List Turn} (h : EmptyFor (n + m) env) : EmptyFor m (env.drop n) := by
  intro turn ht
  refine h turn ?_
  rw [List.take_add]
  exact List.mem_append_right _ ht

theorem emptyFor_replicate_append (n : Nat) (rest : List Turn) : EmptyFor n (List.replicate n ⟨[], false⟩ ++ rest) := by
  intro turn h
  rw [List.take_left' List.length_replicate] at h
  exact (List.mem_replicate.1 h).2

/-- One transition in whose turn nothing happens. -/
theorem Comes.empty_turn {s t : State} {op : Instr} {r : Half} {next : Label} {back : List Label} (hh : s.held = [])
    (he : EmptyFor 1 s.env) (hs : s.fg = .running op r next back)
    (ha : ({ s with env := s.env.drop 1 } : State).atomic op r next back = .next t) : Comes s t := by
  cases henv : s.env with
  | nil =>
    refine .quiet henv hh hs ?_
    rw [henv, List.drop_nil, ← henv] at ha
    exact ha
  | cons turn rest =>
    obtain rfl := he turn (by simp [henv])
    refine .turn (State.pauseDue_cons henv) (State.environment_empty hh henv) hs ?_
    rwa [henv] at ha

/-- The state under this schedule, nothing held back. -/
def State.under (s : State) (env : List Turn) : State := { s with env := env, held := [] }

theorem State.under_self {s : State} {env : List Turn} (he : s.env = env) (hh : s.held = []) : s.under env = s := by
  rw [State.under, ← he, ← hh]

/-- In `n` empty turns the run comes from one state to another, whatever the schedule holds after them. -/
def Quietly (n : Nat) (s t : State) : Prop :=
  ∀ env, EmptyFor n env → Comes (s.under env) (t.under (env.drop n))

section Quietly

variable {n m : Nat} {s t u : State}

theorem Quietly.refl (s : State) : Quietly 0 s s := fun _ _ => .refl _

theorem Quietly.trans (h : Quietly n s t) (k : Quietly m t u) (ht : t.idle = false := by rfl) :
    Quietly (n + m) s u := by
  intro env he
  have hrest := k (env.drop n) he.drop
  rw [List.drop_drop] at hrest
  exact (h env (he.mono (Nat.le_add_right n m))).trans hrest ht

/-- One transition, its step the same under any schedule. -/
theorem Quietly.step {op : Instr} {r : Half} {next : Label} {back : List Label} (hs : s.fg = .running op r next back)
    (ha : ∀ env, (s.under env).atomic op r next back = .next (t.under env)) : Quietly 1 s t :=
  fun env he => .empty_turn rfl he hs (ha (env.drop 1))

/-- With the environment silent. -/
theorem Quietly.comes (h : Quietly n s t) (hse : s.env = []) (hsh : s.held = []) (hte : t.env = [])
    (hth : t.held = []) : Comes s t := by
  have hsilent := h [] (.nil n)
  rwa [List.drop_nil, State.under_self hse hsh, State.under_self hte hth] at hsilent

end Quietly

/-! ## RDB inside a chunk, and at the boundary -/

section Rdb

variable {s : State} {op : Instr} {back : List Label}

/-- B1 and B9. -/
theorem rdb_in_chunk_quietly {v : Byte} (hv : s.rxbuf[s.rxpos.toNat]? = some v) :
    Quietly 2 (s.goTo op .b1 back) (({ s with rxpos := s.rxpos + 1 } : State).finish op (byteResult v) back) := by
  have hlt : s.rxpos.toNat < 32 := (Vector.getElem?_eq_some_iff.1 hv).1
  have hb1 : Quietly 1 (s.goTo op .b1 back) (s.goTo op .b9 back) :=
    .step rfl fun _ => congrArg Host.Outcome.next (if_pos hlt)
  refine hb1.trans (.step rfl fun env => ?_)
  have hv' : ((s.goTo op .b9 back).under env).rxbuf[((s.goTo op .b9 back).under env).rxpos.toNat]? = some v := hv
  simp only [State.atomic, stepB9, hv']
  cases back <;> rfl

/-- The wait B7, a chunk delivered before the timeout and the schedule going on after it. -/
theorem rdb_wait_comes {r : Half} {chunk : Chunk} {ref : Nat} {rest : List Turn} (ms : List Millis) {s : State}
    (hh : s.held = []) (hq : s.irqOff = false) (hs : s.fg = .running op r .b7 back) (hd : s.dataReceived = false)
    (he : s.env = arrival ms chunk ref ++ rest)
    (hx : (s.now - s.t0).toNat + totalMillis ms < s.cfg.rxTimeoutMs.toNat) :
    Comes s ((({ s with now := s.later ms, env := rest } : State).chunkReceived chunk ref).goTo op .b8 back) := by
  induction ms generalizing s r with
  | nil =>
    exact .turn (State.pauseDue_cons he) (State.environment_delivery hh hq he) hs
      (congrArg Host.Outcome.next (stepB7_flag op back rfl))
  | cons m ms ih =>
    rw [totalMillis_cons] at hx
    have helapsed := elapsed_add_le s.now s.t0 m
    have hx' : (s.now + m - s.t0).toNat < s.cfg.rxTimeoutMs.toNat := by omega
    have hpoll : Comes s (({ s with now := s.now + m, env := arrival ms chunk ref ++ rest } : State).goTo op .b7 back) :=
      .turn (State.pauseDue_cons he) (State.environment_tick hh he) hs (congrArg Host.Outcome.next
        (stepB7_stays (s := { s with now := s.now + m, env := arrival ms chunk ref ++ rest }) op back hd
          (decide_eq_false (Nat.not_le.2 hx')) (by simp [arrival])))
    exact hpoll.trans (ih (s := ({ s with now := s.now + m, env := arrival ms chunk ref ++ rest } : State).goTo op .b7 back)
      hh hq rfl hd rfl (by simp only [State.goTo_now, State.goTo_t0, State.goTo_cfg]; omega))

/-- B6 and the wait: the chunk comes before B6, and the poll is one more step, or during the wait. -/
theorem rdb_delivered_comes {chunk : Chunk} {ref : Nat} {rest : List Turn} (ms : List Millis) (hq : s.irqOff = false)
    (hd : s.dataReceived = false) (hx : totalMillis (ms.drop 1) < s.cfg.rxTimeoutMs.toNat)
    (hrest : EmptyFor (if ms = [] then 1 else 0) rest) :
    Comes ((s.goTo op .b6 back).under (arrival ms chunk ref ++ rest))
      (((({ s with t0 := s.later (ms.take 1), now := s.later ms } : State).chunkReceived chunk ref).goTo op .b8 back).under
        (rest.drop (if ms = [] then 1 else 0))) := by
  cases ms with
  | nil =>
    have hb6 : Comes ((s.goTo op .b6 back).under (arrival [] chunk ref ++ rest))
        (((({ s with t0 := s.now } : State).chunkReceived chunk ref).goTo op .b7 back).under rest) :=
      .turn (e := (((s.goTo op .b6 back).under rest).chunkReceived chunk ref)) (State.pauseDue_cons rfl)
        (State.environment_delivery rfl hq rfl) rfl rfl
    have hb7 : Quietly 1 ((({ s with t0 := s.now } : State).chunkReceived chunk ref).goTo op .b7 back)
        ((({ s with t0 := s.now } : State).chunkReceived chunk ref).goTo op .b8 back) :=
      .step rfl fun _ => congrArg Host.Outcome.next (stepB7_flag op back rfl)
    exact hb6.trans (hb7 rest hrest)
  | cons m ms =>
    have hb6 : Comes ((s.goTo op .b6 back).under (arrival (m :: ms) chunk ref ++ rest))
        ((({ s with t0 := s.now + m, now := s.now + m } : State).goTo op .b7 back).under (arrival ms chunk ref ++ rest)) :=
      .turn (e := ({ s with now := s.now + m } : State).goTo op .b6 back |>.under (arrival ms chunk ref ++ rest))
        (State.pauseDue_cons rfl) (State.environment_tick rfl rfl) rfl rfl
    refine hb6.trans (rdb_wait_comes ms (r := 0) rfl hq rfl hd rfl ?_)
    show (s.now + m - (s.now + m)).toNat + totalMillis ms < s.cfg.rxTimeoutMs.toNat
    rw [BitVec.sub_self]
    simpa using hx

/-- B1 to B5, time passing before each. -/
theorem rdb_invites_comes {m₁ m₂ m₃ m₄ m₅ : Millis} {rest : List Turn} (hb : 32 ≤ s.rxpos.toNat)
    (hc : s.rxbuf[0] = s.cfg.indContinues) :
    Comes ((s.goTo op .b1 back).under (ticks [m₁, m₂, m₃, m₄, m₅] ++ rest))
      ((({ s.invited with now := s.later [m₁, m₂, m₃, m₄, m₅] } : State).goTo op .b6 back).under rest) :=
  (rdb_invites_reaches (s := (s.goTo op .b1 back).under (ticks [m₁, m₂, m₃, m₄, m₅] ++ rest)) (op := op) (r := 0)
    (back := back) rfl rfl hb hc rfl).comes

/-- How many steps of RDB follow a delivery up to the copy of the chunk: a delivery before B6 leaves B7 and B8, a later
one B8. -/
def Delivery.lag (d : Delivery) : Nat := if d.ms.length = 5 then 2 else 1

/-- RDB at the boundary up to the copy of the chunk delivered in time. -/
theorem rdb_copies_comes {d : Delivery} {rest : List Turn} (hq : s.irqOff = false) (hb : 32 ≤ s.rxpos.toNat)
    (hc : s.rxbuf[0] = s.cfg.indContinues) (hd : d.inTime s.cfg) (hrest : EmptyFor d.lag rest) :
    Comes ((s.goTo op .b1 back).under (arrival d.ms d.chunk d.ref ++ rest))
      (((s.afterWait d).goTo op .b8v back).under (rest.drop d.lag)) := by
  obtain ⟨ms, chunk, ref⟩ := d
  obtain ⟨hlen, htime⟩ := hd
  match ms, hlen, htime, hrest with
  | m₁ :: m₂ :: m₃ :: m₄ :: m₅ :: ms, _, htime, hrest =>
    have hlag : (Delivery.mk (m₁ :: m₂ :: m₃ :: m₄ :: m₅ :: ms) chunk ref).lag = (if ms = [] then 1 else 0) + 1 := by
      cases ms <;> simp [Delivery.lag]
    rw [hlag] at hrest ⊢
    have hinvite := rdb_invites_comes (op := op) (back := back) (m₁ := m₁) (m₂ := m₂) (m₃ := m₃) (m₄ := m₄) (m₅ := m₅)
      (rest := arrival ms chunk ref ++ rest) hb hc
    have hwait := rdb_delivered_comes (op := op) (back := back) (chunk := chunk) (ref := ref) (rest := rest)
      (s := { s.invited with now := s.later [m₁, m₂, m₃, m₄, m₅] }) ms hq rfl htime (hrest.mono (Nat.le_add_right _ 1))
    have hcopy : Quietly 1 ((({ ({ s.invited with now := s.later [m₁, m₂, m₃, m₄, m₅] } : State) with
        t0 := s.later (m₁ :: m₂ :: m₃ :: m₄ :: m₅ :: ms.take 1),
        now := s.later (m₁ :: m₂ :: m₃ :: m₄ :: m₅ :: ms) } : State).chunkReceived chunk ref).goTo op .b8 back)
        ((s.afterWait ⟨m₁ :: m₂ :: m₃ :: m₄ :: m₅ :: ms, chunk, ref⟩).goTo op .b8v back) := .step rfl fun _ => rfl
    have hcopied := hcopy (rest.drop (if ms = [] then 1 else 0)) hrest.drop
    rw [List.drop_drop] at hcopied
    exact (hinvite.trans hwait).trans hcopied

/-- RDB at the boundary, the chunk delivered in time and tagged, called from any operation: its first payload byte is
returned. -/
theorem rdb_crosses_comes {d : Delivery} {rest : List Turn} (hq : s.irqOff = false) (hb : 32 ≤ s.rxpos.toNat)
    (hc : s.rxbuf[0] = s.cfg.indContinues) (hd : d.inTime s.cfg) (ht : tagged s.cfg d.chunk)
    (hrest : EmptyFor (d.lag + 3) rest) :
    Comes ((s.goTo op .b1 back).under (arrival d.ms d.chunk d.ref ++ rest))
      ((({ s.afterWait d with rxpos := 2, readFailed := false } : State).finish op (byteResult d.chunk[1]) back).under
        (rest.drop (d.lag + 3))) := by
  have hvalid : Quietly 1 ((s.afterWait d).goTo op .b8v back) ((s.afterWait d).goTo op .b8r back) :=
    .step rfl fun _ => congrArg Host.Outcome.next (if_pos (isIndicator_of_tagged ht))
  have haccept : Quietly 1 ((s.afterWait d).goTo op .b8r back) ((s.afterWait d).acceptChunk.goTo op .b9 back) :=
    .step rfl fun _ => rfl
  have hread : Quietly 1 ((s.afterWait d).acceptChunk.goTo op .b9 back)
      (({ s.afterWait d with rxpos := 2, readFailed := false } : State).finish op (byteResult d.chunk[1]) back) :=
    .step rfl fun _ => by cases back <;> rfl
  have hrest' := ((hvalid.trans haccept).trans hread) (rest.drop d.lag) hrest.drop
  rw [List.drop_drop] at hrest'
  exact (rdb_copies_comes hq hb hc hd (hrest.mono (Nat.le_add_right _ 3))).trans hrest'

/-- The chunk delivered in time is not tagged. -/
theorem rdb_copies_untagged_comes {d : Delivery} (hq : s.irqOff = false) (hb : 32 ≤ s.rxpos.toNat)
    (hc : s.rxbuf[0] = s.cfg.indContinues) (hd : d.inTime s.cfg) (ht : ¬ tagged s.cfg d.chunk) :
    Comes ((s.goTo op .b1 back).under (arrival d.ms d.chunk d.ref)) (((s.afterWait d).failRead .badIndicator).under []) := by
  have hcopied := rdb_copies_comes (op := op) (back := back) hq hb hc hd (.nil d.lag)
  rw [List.append_nil, List.drop_nil] at hcopied
  exact hcopied.trans (rdb_rejects_comes rfl rfl rfl ht)

end Rdb

end Sys2Proof.Machine
end

section
/-! RDP and RDS over any number of chunks (spec 41 R116, R120). -/

namespace Sys2Proof.Machine

open Sys2Proof

/-! ## What a parameter read changes besides what a wait does -/

structure Progress where
  l : Half
  i : Half
  cap : Half
  out : Memory
  rxpos : BitVec 6
  readFailed : Bool

def State.withProgress (s : State) (q : Progress) : State :=
  { s with l := q.l, i := q.i, cap := q.cap, out := q.out, rxpos := q.rxpos, readFailed := q.readFailed }

/-- The cursor and the ghost of the reader at other values. -/
def Progress.elsewhere (q : Progress) (rxpos : BitVec 6) (readFailed : Bool) : Progress :=
  { q with rxpos := rxpos, readFailed := readFailed }

/-- One data byte stored where I is below CAP, and both cursors moved on. -/
def Progress.read (q : Progress) (b : Byte) : Progress :=
  { q with
    i := q.i + 1
    out := if q.i.toNat < q.cap.toNat then q.out.write q.i.toNat b else q.out
    rxpos := q.rxpos + 1 }

def Progress.readAll (q : Progress) (bs : List Byte) : Progress := bs.foldl Progress.read q

theorem Progress.readAll_append (q : Progress) (as bs : List Byte) :
    q.readAll (as ++ bs) = (q.readAll as).readAll bs := List.foldl_append

theorem Progress.readAll_l (bs : List Byte) (q : Progress) : (q.readAll bs).l = q.l := by
  induction bs generalizing q with
  | nil => rfl
  | cons b bs ih => exact ih (q.read b)

theorem Progress.readAll_cap (bs : List Byte) (q : Progress) : (q.readAll bs).cap = q.cap := by
  induction bs generalizing q with
  | nil => rfl
  | cons b bs ih => exact ih (q.read b)

theorem Progress.readAll_readFailed (bs : List Byte) (q : Progress) : (q.readAll bs).readFailed = q.readFailed := by
  induction bs generalizing q with
  | nil => rfl
  | cons b bs ih => exact ih (q.read b)

theorem Progress.readAll_i (bs : List Byte) (q : Progress) : (q.readAll bs).i = q.i + BitVec.ofNat 16 bs.length := by
  induction bs generalizing q with
  | nil => exact (BitVec.add_zero q.i).symm
  | cons b bs ih =>
    have hnext : (q.read b).i = q.i + 1 := rfl
    rw [List.length_cons, show q.readAll (b :: bs) = (q.read b).readAll bs from rfl, ih, hnext]
    bv_omega

theorem Progress.readAll_i_toNat (bs : List Byte) (q : Progress) (h : q.i.toNat + bs.length < 65536) :
    (q.readAll bs).i.toNat = q.i.toNat + bs.length := by
  rw [q.readAll_i]
  bv_omega

theorem Progress.readAll_rxpos (bs : List Byte) (q : Progress) :
    (q.readAll bs).rxpos = q.rxpos + BitVec.ofNat 6 bs.length := by
  induction bs generalizing q with
  | nil => exact (BitVec.add_zero q.rxpos).symm
  | cons b bs ih =>
    have hnext : (q.read b).rxpos = q.rxpos + 1 := rfl
    rw [List.length_cons, show q.readAll (b :: bs) = (q.read b).readAll bs from rfl, ih, hnext]
    bv_omega

/-- Neither the cursor of the reader nor the ghost decides what is stored. -/
theorem Progress.readAll_elsewhere (bs : List Byte) (q : Progress) (pos pos' : BitVec 6) (failed failed' : Bool) :
    ((q.elsewhere pos failed).readAll bs).elsewhere pos' failed' = (q.readAll bs).elsewhere pos' failed' := by
  induction bs generalizing q pos with
  | nil => rfl
  | cons b bs ih => exact ih (q.read b) (pos + 1)

theorem Progress.read_out (q : Progress) (b : Byte) (k : Nat) :
    Memory.read (q.read b).out k =
      if k = q.i.toNat ∧ k < q.cap.toNat then some b else Memory.read q.out k := by
  by_cases hcap : q.i.toNat < q.cap.toNat
  · rw [show (q.read b).out = q.out.write q.i.toNat b from if_pos hcap, Memory.read_write]
    exact if_congr (by omega) rfl rfl
  · rw [show (q.read b).out = q.out from if_neg hcap, if_neg (by omega)]

/-- Every byte of OUT after some have been read. -/
theorem Progress.readAll_out (bs : List Byte) (q : Progress) (h : q.i.toNat + bs.length < 65536) (k : Nat) :
    Memory.read (q.readAll bs).out k =
      if q.i.toNat ≤ k ∧ k < q.i.toNat + bs.length ∧ k < q.cap.toNat then bs[k - q.i.toNat]? else Memory.read q.out k := by
  induction bs generalizing q with
  | nil => rw [if_neg (by simp only [List.length_nil]; omega)]; rfl
  | cons b bs ih =>
    rw [List.length_cons] at h ⊢
    have hi : (q.read b).i.toNat = q.i.toNat + 1 := by
      show (q.i + 1).toNat = _
      bv_omega
    have hfirst : Memory.read (q.read b).out k =
        if k = q.i.toNat ∧ k < q.cap.toNat then some b else Memory.read q.out k := q.read_out b k
    rw [show q.readAll (b :: bs) = (q.read b).readAll bs from rfl, ih _ (by omega), hfirst, hi,
      show (q.read b).cap = q.cap from rfl]
    obtain hlt | rfl | hgt := Nat.lt_trichotomy k q.i.toNat
    · rw [if_neg (by omega), if_neg (by omega), if_neg (by omega)]
    · simp
    · have hindex : k - q.i.toNat = k - (q.i.toNat + 1) + 1 := by omega
      rw [hindex, List.getElem?_cons_succ, if_neg (by omega : ¬ (k = q.i.toNat ∧ _))]
      exact if_congr (by omega) rfl rfl

/-! ## The steps of the loop P2 -/

theorem resultByte_byteResult (b : Byte) : resultByte (byteResult b) = b := by
  simp [resultByte, byteResult]

section Steps

variable {s : State} {q : Progress} {op : Instr} {back : List Label}

/-- P2, with a data byte to be read. -/
theorem p2_calls_quietly (h : q.i.toNat < q.l.toNat) :
    Quietly 1 ((s.withProgress q).goTo op .p2 back) ((s.withProgress q).goTo op .b1 (.p2r :: back)) :=
  .step rfl fun _ => congrArg Host.Outcome.next (if_pos h)

/-- P2, the byte having been read. -/
theorem p2_stores_quietly (b : Byte) :
    Quietly 1 ((s.withProgress { q with rxpos := q.rxpos + 1 }).finish op (byteResult b) (.p2r :: back))
      ((s.withProgress (q.read b)).goTo op .p2 back) := by
  refine .step rfl fun env => congrArg Host.Outcome.next ?_
  have hstore : ∀ u : State, u.storeClamped b =
      { u with out := if u.i.toNat < u.cap.toNat then u.out.write u.i.toNat b else u.out } := by
    intro u
    rw [State.storeClamped]
    split <;> rfl
  rw [stepP2r, resultByte_byteResult, hstore]
  rfl

/-- One data byte of the chunk. -/
theorem p2_reads_quietly {b : Byte} (hb : s.rxbuf[q.rxpos.toNat]? = some b) (h : q.i.toNat < q.l.toNat) :
    Quietly 4 ((s.withProgress q).goTo op .p2 back) ((s.withProgress (q.read b)).goTo op .p2 back) :=
  ((p2_calls_quietly h).trans (rdb_in_chunk_quietly hb)).trans (p2_stores_quietly b)

/-- So many data bytes of the chunk. -/
theorem p2_reads_all_quietly (bs : List Byte) {q : Progress}
    (hbytes : chunkBytes s.rxbuf q.rxpos.toNat bs.length = bs) (hfit : q.rxpos.toNat + bs.length ≤ 32)
    (hlen : q.i.toNat + bs.length ≤ q.l.toNat) :
    Quietly (4 * bs.length) ((s.withProgress q).goTo op .p2 back) ((s.withProgress (q.readAll bs)).goTo op .p2 back) := by
  induction bs generalizing q with
  | nil => exact .refl _
  | cons b bs ih =>
    rw [List.length_cons] at hfit hlen hbytes ⊢
    have hpos : q.rxpos.toNat < 32 := by omega
    rw [chunkBytes_succ bs.length hpos, List.cons.injEq] at hbytes
    obtain ⟨hb, hrest⟩ := hbytes
    have hl : q.l.toNat < 65536 := q.l.isLt
    have hrxpos : (q.read b).rxpos.toNat = q.rxpos.toNat + 1 := by
      show (q.rxpos + 1).toNat = _
      bv_omega
    have hi : (q.read b).i.toNat = q.i.toNat + 1 := by
      show (q.i + 1).toNat = _
      bv_omega
    have hfirst := p2_reads_quietly (s := s) (op := op) (back := back) (q := q) (b := b)
      (by rw [← hb]; exact Vector.getElem?_eq_getElem hpos) (by omega)
    have hloop := ih (q := q.read b) (by rw [hrxpos]; exact hrest) (by omega)
      (by rw [hi, show (q.read b).l = q.l from rfl]; omega)
    rw [Nat.mul_succ, Nat.add_comm]
    exact hfirst.trans hloop

end Steps

/-! ## The loop over the chunks delivered -/

theorem emptyFor_messageSchedule (n : Nat) (ds : List Delivery) : EmptyFor n (messageSchedule n ds) := by
  cases ds with
  | nil => exact .nil n
  | cons d ds =>
    rw [messageSchedule, deliveryAfter, List.append_assoc]
    exact emptyFor_replicate_append n _

theorem messageSchedule_drop (ds : List Delivery) {n k : Nat} (h : k ≤ n) :
    (messageSchedule n ds).drop k = messageSchedule (n - k) ds := by
  cases ds with
  | nil => exact List.drop_nil
  | cons d ds =>
    rw [messageSchedule, messageSchedule, deliveryAfter, deliveryAfter, List.append_assoc, List.append_assoc,
      List.drop_append_of_le_length (by rwa [List.length_replicate]), List.drop_replicate]

theorem Delivery.gap_eq (d : Delivery) : d.gap = d.lag + 125 := by
  rw [Delivery.gap, Delivery.lag]
  split <;> rfl

/-- The bytes to be read go beyond the chunk in RXBUF: its rest, the first payload byte of the next chunk, and what
follows that. -/
theorem bytes_split {chunk : Chunk} {rest as bs : List Byte}
    (h : (as ++ (payload chunk ++ rest)).take bs.length = bs) (hlen : as.length < bs.length) :
    ∃ cs, bs = as ++ chunk[1]'(by decide) :: cs ∧ (chunk.toList.drop 2 ++ rest).take cs.length = cs := by
  obtain ⟨m, hm⟩ : ∃ m, bs.length = as.length + (m + 1) := ⟨bs.length - as.length - 1, by omega⟩
  have hchunk : payload chunk = chunk[1] :: chunk.toList.drop 2 := by
    rw [payload_eq_cons, chunkBytes, List.take_of_length_le (by simp)]
  rw [hm, List.take_length_add_append, hchunk, List.cons_append, List.take_succ_cons] at h
  refine ⟨_, h.symm, ?_⟩
  have hcs : ((chunk.toList.drop 2 ++ rest).take m).length = m := by
    have := congrArg List.length h
    rw [List.length_append, List.length_cons] at this
    omega
  rw [hcs]

section Crossing

variable {s : State} {q : Progress} {op : Instr} {back : List Label}

/-- From P2 at the boundary to P2 with the first payload byte of the next chunk read. -/
theorem p2_crosses_comes {d : Delivery} {ds : List Delivery} (hirq : s.irqOff = false) (hb : q.rxpos = 32)
    (hmore : q.i.toNat < q.l.toNat) (hc : s.rxbuf[0] = s.cfg.indContinues) (hd : d.inTime s.cfg)
    (ht : tagged s.cfg d.chunk) :
    Comes (((s.withProgress q).goTo op .p2 back).under (messageSchedule 1 (d :: ds)))
      ((((s.afterWait d).withProgress ((q.elsewhere 1 false).read d.chunk[1])).goTo
        op .p2 back).under (messageSchedule 121 ds)) := by
  have hgap := d.gap_eq
  have hcall := p2_calls_quietly (s := s) (op := op) (back := back) hmore _ (emptyFor_messageSchedule 1 (d :: ds))
  have hcross := rdb_crosses_comes (s := s.withProgress q) (op := op) (back := .p2r :: back) hirq (congrArg BitVec.toNat hb).ge
    hc hd ht ((emptyFor_messageSchedule d.gap ds).mono (by omega))
  have hstore := p2_stores_quietly (s := s.afterWait d) (q := q.elsewhere 1 false) (op := op)
    (back := back) d.chunk[1] (messageSchedule (d.gap - (d.lag + 3)) ds)
    ((emptyFor_messageSchedule _ ds).mono (by omega))
  rw [messageSchedule_drop ds (by omega)] at hcross hstore
  rw [show d.gap - (d.lag + 3) - 1 = 121 by omega] at hstore
  exact (hcall.trans hcross).trans hstore

/-- From P2 inside a chunk, the rest of the chunk read, to P2 with the first payload byte of the next chunk read. -/
theorem p2_next_chunk_comes {d : Delivery} {ds : List Delivery} {as : List Byte} (hirq : s.irqOff = false)
    (hpos : q.rxpos.toNat ≤ 32) (has : s.rxbuf.toList.drop q.rxpos.toNat = as)
    (hmore : q.i.toNat + as.length < q.l.toNat) (hc : s.rxbuf[0] = s.cfg.indContinues) (hd : d.inTime s.cfg)
    (ht : tagged s.cfg d.chunk) :
    Comes (((s.withProgress q).goTo op .p2 back).under (messageSchedule (4 * (32 - q.rxpos.toNat) + 1) (d :: ds)))
      ((((s.afterWait d).withProgress ((q.readAll (as ++ [d.chunk[1]])).elsewhere 2 false)).goTo op .p2 back).under
        (messageSchedule 121 ds)) := by
  have hlen : as.length = 32 - q.rxpos.toNat := by simp [← has]
  have hl := q.l.isLt
  have hloop := p2_reads_all_quietly (s := s) (op := op) (back := back) as (q := q)
    (by rw [chunkBytes, has, List.take_length]) (by omega) hmore.le _
    ((emptyFor_messageSchedule (4 * (32 - q.rxpos.toNat) + 1) (d :: ds)).mono (by omega))
  rw [messageSchedule_drop _ (by omega), show 4 * (32 - q.rxpos.toNat) + 1 - 4 * as.length = 1 by omega] at hloop
  have hrxpos : (q.readAll as).rxpos = 32 := by
    rw [q.readAll_rxpos, hlen]
    bv_omega
  have hi : (q.readAll as).i.toNat = q.i.toNat + as.length := q.readAll_i_toNat as (by omega)
  rw [q.readAll_append]
  exact hloop.trans (p2_crosses_comes hirq hrxpos (by rwa [hi, q.readAll_l]) hc hd ht)

/-- The rest of the parameter is in the chunk. -/
theorem p2_last_chunk_comes {bs : List Byte} (hpos : q.rxpos.toNat ≤ 32)
    (hbytes : (s.rxbuf.toList.drop q.rxpos.toNat).take bs.length = bs)
    (hlen : q.i.toNat + bs.length ≤ q.l.toNat) :
    Comes (((s.withProgress q).goTo op .p2 back).under [])
      (((s.withProgress
        ((q.readAll bs).elsewhere (BitVec.ofNat 6 (q.rxpos.toNat + bs.length)) q.readFailed)).goTo op .p2 back).under
          []) := by
  have hrxpos : BitVec.ofNat 6 (q.rxpos.toNat + bs.length) = (q.readAll bs).rxpos := by
    rw [q.readAll_rxpos]
    bv_omega
  have hall : q.readAll bs = (q.readAll bs).elsewhere (BitVec.ofNat 6 (q.rxpos.toNat + bs.length)) q.readFailed := by
    rw [hrxpos, ← Progress.readAll_readFailed bs q]
    rfl
  have hfit : q.rxpos.toNat + bs.length ≤ 32 := by
    have := congrArg List.length hbytes
    rw [List.length_take, List.length_drop, Vector.length_toList] at this
    omega
  have hloop := p2_reads_all_quietly (s := s) (op := op) (back := back) bs hbytes hfit hlen [] (.nil _)
  rw [List.drop_nil] at hloop
  rwa [← hall]

end Crossing

/-- The loop P2 over all the chunks that the parameter reaches. -/
theorem p2_comes (ds : List Delivery) {s : State} {q : Progress} {op : Instr} {back : List Label} {bs : List Byte}
    (hirq : ds ≠ [] → s.irqOff = false) (hpos : q.rxpos.toNat ≤ 32)
    (hbytes : (s.rxbuf.toList.drop q.rxpos.toNat ++ (ds.map Delivery.chunk).flatMap payload).take bs.length = bs)
    (hlen : q.i.toNat + bs.length = q.l.toNat)
    (hcont : ∀ ch ∈ (s.rxbuf :: ds.map Delivery.chunk).dropLast, ch[0] = s.cfg.indContinues)
    (hd : ∀ d ∈ ds, d.inTime s.cfg ∧ tagged s.cfg d.chunk)
    (hreach : ds ≠ [] → 32 - q.rxpos.toNat + 31 * (ds.length - 1) < bs.length) :
    Comes (((s.withProgress q).goTo op .p2 back).under (messageSchedule (4 * (32 - q.rxpos.toNat) + 1) ds))
      ((((ds.foldl State.afterWait s).withProgress
        ((q.readAll bs).elsewhere (BitVec.ofNat 6 (q.rxpos.toNat + bs.length - 31 * ds.length))
          (if ds = [] then q.readFailed else false))).goTo op .p2 back).under []) := by
  induction ds generalizing s q bs with
  | nil =>
    rw [List.map_nil, List.flatMap_nil, List.append_nil] at hbytes
    exact p2_last_chunk_comes hpos hbytes hlen.le
  | cons d ds ih =>
    obtain ⟨hc, hcont'⟩ : s.rxbuf[0] = s.cfg.indContinues ∧
        ∀ ch ∈ (d.chunk :: ds.map Delivery.chunk).dropLast, ch[0] = s.cfg.indContinues := List.forall_mem_cons.1 hcont
    obtain ⟨⟨hin, htag⟩, hds⟩ := List.forall_mem_cons.1 hd
    have hbeyond := hreach (List.cons_ne_nil d ds)
    rw [List.length_cons, Nat.add_sub_cancel] at hbeyond
    have hrest : (s.rxbuf.toList.drop q.rxpos.toNat).length = 32 - q.rxpos.toNat := by simp
    rw [List.map_cons, List.flatMap_cons] at hbytes
    obtain ⟨cs, hbs, hcs⟩ := bytes_split hbytes (by omega)
    generalize has : s.rxbuf.toList.drop q.rxpos.toNat = as at hbs hrest
    clear hbytes
    subst hbs
    rw [List.length_append, List.length_cons] at hlen hbeyond ⊢
    have hl := q.l.isLt
    have hi : (q.readAll (as ++ [d.chunk[1]])).i.toNat = q.i.toNat + (as.length + 1) := by
      rw [q.readAll_i_toNat _ (by rw [List.length_append, List.length_singleton]; omega), List.length_append,
        List.length_singleton]
    have hcross := p2_next_chunk_comes (op := op) (back := back) (ds := ds) (hirq (List.cons_ne_nil d ds)) hpos has
      (by omega) hc hin htag
    have hrest' : ds ≠ [] → 30 + 31 * (ds.length - 1) < cs.length := by
      intro hne
      have := List.length_pos_iff.2 hne
      omega
    have hlen' : (q.readAll (as ++ [d.chunk[1]])).i.toNat + cs.length = (q.readAll (as ++ [d.chunk[1]])).l.toNat := by
      rw [hi, q.readAll_l]
      omega
    have hend : 2 + cs.length - 31 * ds.length = q.rxpos.toNat + (as.length + (cs.length + 1)) - 31 * (ds.length + 1) := by
      omega
    have hfailed : (if ds = [] then false else false) = false := ite_self false
    have hnext := ih (s := s.afterWait d) (bs := cs) (q := (q.readAll (as ++ [d.chunk[1]])).elsewhere 2 false)
      (fun _ => hirq (List.cons_ne_nil d ds)) (by decide : 2 ≤ 32) hcs hlen' hcont' hds hrest'
    rw [Progress.readAll_elsewhere, ← q.readAll_append, List.append_assoc, List.singleton_append] at hnext
    rw [List.length_cons, ← hend, if_neg (List.cons_ne_nil d ds), ← hfailed]
    exact hcross.trans hnext

end Sys2Proof.Machine
end

section
/-! RDP and RDS as whole operations (spec 41 R116, R120). -/

namespace Sys2Proof.Machine

open Sys2Proof

/-! ## The length byte, and the end of the loop -/

/-- P1 has read the length byte. -/
def State.begun (s : State) (cap : Half) (len : Byte) : Progress where
  l := len.setWidth 16
  i := 0
  cap := cap
  out := s.out
  rxpos := s.rxpos
  readFailed := s.readFailed

/-- The bytes of the parameter in OUT. -/
def State.parameterOut (s : State) (cap : Half) (len : Byte) (bs : List Byte) : Memory :=
  ((s.begun cap len).readAll bs).out

theorem State.parameterOut_read {s : State} {cap : Half} {len : Byte} {bs : List Byte} (h : bs.length ≤ 255) (k : Nat) :
    Memory.read (s.parameterOut cap len bs) k =
      if k < bs.length ∧ k < cap.toNat then bs[k]? else Memory.read s.out k := by
  have hzero : (s.begun cap len).i.toNat = 0 := rfl
  rw [State.parameterOut, Progress.readAll_out bs _ (by omega), hzero]
  exact if_congr (by rw [Nat.zero_add]; exact ⟨fun ⟨_, h⟩ => h, fun h => ⟨Nat.zero_le k, h⟩⟩) rfl rfl

theorem toNat_setWidth_byte (b : Byte) : (b.setWidth 16).toNat = b.toNat := by
  have := b.isLt
  rw [BitVec.toNat_setWidth, Nat.mod_eq_of_lt (by omega)]

/-- All the bytes of the parameter have been read. -/
theorem State.begun_readAll {s : State} {cap : Half} {len : Byte} {bs : List Byte} (h : bs.length = len.toNat)
    (pos : BitVec 6) (failed : Bool) :
    ((s.begun cap len).readAll bs).elsewhere pos failed =
      ⟨len.setWidth 16, len.setWidth 16, cap, s.parameterOut cap len bs, pos, failed⟩ := by
  have hi : ((s.begun cap len).readAll bs).i = len.setWidth 16 := by
    rw [Progress.readAll_i, h]
    apply BitVec.eq_of_toNat_eq
    have := len.isLt
    simp [State.begun]
  rw [Progress.elsewhere, Progress.readAll_l, hi, Progress.readAll_cap]
  rfl

section Steps

variable {s : State} {q : Progress} {op : Instr} {back : List Label} {cap : Half}

theorem p1_calls_quietly : Quietly 1 (s.goTo op (.p1 cap) back) (s.goTo op .b1 (.p1r cap :: back)) :=
  .step rfl fun _ => rfl

theorem p1_begins_quietly (len : Byte) :
    Quietly 1 (s.finish op (byteResult len) (.p1r cap :: back)) ((s.withProgress (s.begun cap len)).goTo op .p2 back) := by
  refine .step rfl fun env => congrArg Host.Outcome.next ?_
  rw [stepP1r, resultByte_byteResult]
  rfl

/-- The length byte inside a chunk. -/
theorem p1_quietly {len : Byte} (hlen : s.rxbuf[s.rxpos.toNat]? = some len) :
    Quietly 4 (s.goTo op (.p1 cap) back)
      ((s.withProgress ((s.begun cap len).elsewhere (s.rxpos + 1) s.readFailed)).goTo op .p2 back) :=
  (p1_calls_quietly.trans (rdb_in_chunk_quietly hlen)).trans (p1_begins_quietly len)

/-- P2 with all bytes read, and P3. -/
theorem rdp_ends_quietly (h : ¬ q.i.toNat < q.l.toNat) :
    Quietly 2 ((s.withProgress q).goTo op .p2 [.p3]) ((s.withProgress q).finished (storedCount q.l q.cap)) := by
  have hp2 : Quietly 1 ((s.withProgress q).goTo op .p2 [.p3]) ((s.withProgress q).goTo op .p3 []) :=
    .step rfl fun _ => congrArg Host.Outcome.next (if_neg h)
  exact hp2.trans (.step rfl fun _ => rfl)

/-- P2 with all bytes read, T2 and T3. -/
theorem rds_ends_quietly (h : ¬ q.i.toNat < q.l.toNat) :
    Quietly 3 ((s.withProgress q).goTo op .p2 [.t2])
      ((s.withProgress { q with out := q.out.write (storedCount q.l q.cap).toNat 0 }).finished (storedCount q.l q.cap)) := by
  have hp2 : Quietly 1 ((s.withProgress q).goTo op .p2 [.t2]) ((s.withProgress q).goTo op .t2 []) :=
    .step rfl fun _ => congrArg Host.Outcome.next (if_neg h)
  have ht2 : Quietly 1 ((s.withProgress q).goTo op .t2 [])
      ((s.withProgress { q with out := q.out.write (storedCount q.l q.cap).toNat 0 }).goTo op .t3 []) :=
    .step rfl fun _ => rfl
  exact (hp2.trans ht2).trans (.step rfl fun _ => rfl)

end Steps

/-! ## The whole parameter -/

/-- The parameter at the cursor: its length byte and what follows it, in the rest of the chunk in RXBUF and in the
chunks delivered, all of which it reaches. -/
structure State.ParameterAt (s : State) (len : Byte) (data : List Byte) (ds : List Delivery) : Prop where
  irqOff : ds ≠ [] → s.irqOff = false
  bytes : s.rxbuf.toList.drop s.rxpos.toNat ++ (ds.map Delivery.chunk).flatMap payload = len :: data
  continues : ∀ ch ∈ (s.rxbuf :: ds.map Delivery.chunk).dropLast, ch[0] = s.cfg.indContinues
  delivered : ∀ d ∈ ds, d.inTime s.cfg ∧ tagged s.cfg d.chunk
  reached : ds ≠ [] → 32 - s.rxpos.toNat + 31 * (ds.length - 1) ≤ len.toNat
  enough : len.toNat ≤ data.length

/-- The cursor after the parameter. -/
def State.cursorAfter (s : State) (len : Byte) (ds : List Delivery) : BitVec 6 :=
  BitVec.ofNat 6 (min s.rxpos.toNat 32 + len.toNat + 1 - 31 * ds.length)

/-- What the parameter's read has come to. -/
def State.parameterRead (s : State) (cap : Half) (len : Byte) (data : List Byte) (ds : List Delivery) : Progress :=
  ⟨len.setWidth 16, len.setWidth 16, cap, s.parameterOut cap len (data.take len.toNat), s.cursorAfter len ds,
    if ds = [] then s.readFailed else false⟩

section Parameter

variable {s : State} {op : Instr} {back : List Label} {cap : Half} {len : Byte} {data : List Byte} {ds : List Delivery}

/-- The turns before the RDB of the first wait (log 16). -/
def State.stepsBefore (s : State) : Nat := if s.rxpos.toNat < 32 then 5 + 4 * (31 - s.rxpos.toNat) else 1

/-- The length byte is in RXBUF. -/
theorem parameter_in_chunk_comes (h : s.ParameterAt len data ds) (hpos : s.rxpos.toNat < 32) :
    Comes ((s.goTo op (.p1 cap) back).under (messageSchedule s.stepsBefore ds))
      ((((ds.foldl State.afterWait s).withProgress (s.parameterRead cap len data ds)).goTo op .p2 back).under []) := by
  have hbytes := h.bytes
  have hpos' : s.rxpos.toNat < s.rxbuf.toList.length := by simpa using hpos
  rw [List.drop_eq_getElem_cons hpos', List.cons_append, List.cons.injEq] at hbytes
  obtain ⟨hlen, hdata⟩ := hbytes
  have hnext : (s.rxpos + 1).toNat = s.rxpos.toNat + 1 := by bv_omega
  have hfirst := p1_quietly (s := s) (op := op) (back := back) (cap := cap) (len := len)
    (by rw [← hlen]; exact Vector.getElem?_eq_getElem hpos) _ ((emptyFor_messageSchedule s.stepsBefore ds).mono
      (by rw [State.stepsBefore, if_pos hpos]; omega))
  rw [messageSchedule_drop ds (by rw [State.stepsBefore, if_pos hpos]; omega)] at hfirst
  have htake : (data.take len.toNat).length = len.toNat := by rw [List.length_take, min_eq_left h.enough]
  have hloop := p2_comes ds (s := s) (op := op) (back := back) (bs := data.take len.toNat)
    (q := (s.begun cap len).elsewhere (s.rxpos + 1) s.readFailed) h.irqOff
    (show (s.rxpos + 1).toNat ≤ 32 by omega)
    (by
      show List.take _ (List.drop (s.rxpos + 1).toNat _ ++ _) = _
      rw [hnext, hdata, htake])
    (by
      show 0 + (data.take len.toNat).length = (len.setWidth 16).toNat
      rw [htake, toNat_setWidth_byte, Nat.zero_add])
    h.continues h.delivered
    (by
      intro hne
      have := h.reached hne
      show 32 - (s.rxpos + 1).toNat + _ < _
      omega)
  have hrxpos : ((s.begun cap len).elsewhere (s.rxpos + 1) s.readFailed).rxpos.toNat = s.rxpos.toNat + 1 := hnext
  have hsteps : 4 * (32 - (s.rxpos.toNat + 1)) + 1 = s.stepsBefore - 4 := by
    rw [State.stepsBefore, if_pos hpos]
    omega
  have hcursor : BitVec.ofNat 6 (s.rxpos.toNat + 1 + len.toNat - 31 * ds.length) = s.cursorAfter len ds := by
    rw [State.cursorAfter, min_eq_left hpos.le, Nat.add_right_comm]
  rw [Progress.readAll_elsewhere, State.begun_readAll htake, hrxpos, htake, hsteps, hcursor] at hloop
  exact hfirst.trans hloop

/-- P1 at the boundary: the length byte is the first of the chunk delivered. -/
theorem p1_crosses_comes {d : Delivery} (hirq : s.irqOff = false) (hpos : 32 ≤ s.rxpos.toNat)
    (hc : s.rxbuf[0] = s.cfg.indContinues) (hd : d.inTime s.cfg) (ht : tagged s.cfg d.chunk) :
    Comes ((s.goTo op (.p1 cap) back).under (messageSchedule 1 (d :: ds)))
      ((((s.afterWait d).withProgress ((s.begun cap d.chunk[1]).elsewhere 2 false)).goTo op .p2 back).under
        (messageSchedule 121 ds)) := by
  have hgap := d.gap_eq
  have hcall := p1_calls_quietly (s := s) (op := op) (back := back) (cap := cap) _ (emptyFor_messageSchedule 1 (d :: ds))
  have hcross := rdb_crosses_comes (s := s) (op := op) (back := .p1r cap :: back) hirq hpos hc hd ht
    ((emptyFor_messageSchedule d.gap ds).mono (by omega))
  have hbegin := p1_begins_quietly (s := { s.afterWait d with rxpos := 2, readFailed := false }) (op := op) (back := back)
    (cap := cap) d.chunk[1] (messageSchedule (d.gap - (d.lag + 3)) ds) ((emptyFor_messageSchedule _ ds).mono (by omega))
  rw [messageSchedule_drop ds (by omega)] at hcross hbegin
  rw [show d.gap - (d.lag + 3) - 1 = 121 by omega] at hbegin
  exact (hcall.trans hcross).trans hbegin

/-- The length byte is the first of the first chunk delivered. -/
theorem parameter_at_boundary_comes {d : Delivery} (h : s.ParameterAt len data (d :: ds)) (hpos : 32 ≤ s.rxpos.toNat) :
    Comes ((s.goTo op (.p1 cap) back).under (messageSchedule s.stepsBefore (d :: ds)))
      (((((d :: ds).foldl State.afterWait s).withProgress (s.parameterRead cap len data (d :: ds))).goTo op .p2
        back).under []) := by
  have hbytes := h.bytes
  have hchunk : payload d.chunk = d.chunk[1] :: d.chunk.toList.drop 2 := by
    rw [payload_eq_cons, chunkBytes, List.take_of_length_le (by simp)]
  rw [List.drop_of_length_le (by simpa using hpos), List.nil_append, List.map_cons, List.flatMap_cons, hchunk,
    List.cons_append, List.cons.injEq] at hbytes
  obtain ⟨hlen, hdata⟩ := hbytes
  obtain ⟨hc, hcont⟩ : s.rxbuf[0] = s.cfg.indContinues ∧
      ∀ ch ∈ (d.chunk :: ds.map Delivery.chunk).dropLast, ch[0] = s.cfg.indContinues :=
    List.forall_mem_cons.1 h.continues
  obtain ⟨⟨hin, htag⟩, hds⟩ := List.forall_mem_cons.1 h.delivered
  have hirq := h.irqOff (List.cons_ne_nil d ds)
  have hreached := h.reached (List.cons_ne_nil d ds)
  rw [List.length_cons, Nat.add_sub_cancel] at hreached
  have hbegin := p1_crosses_comes (op := op) (back := back) (cap := cap) (ds := ds) hirq hpos hc hin htag
  rw [hlen] at hbegin
  have htake : (data.take len.toNat).length = len.toNat := by rw [List.length_take, min_eq_left h.enough]
  have hloop := p2_comes ds (s := s.afterWait d) (op := op) (back := back) (bs := data.take len.toNat)
    (q := (s.begun cap len).elsewhere 2 false) (fun _ => hirq) (by decide : 2 ≤ 32)
    (by
      show List.take _ (List.drop 2 d.chunk.toList ++ _) = _
      rw [hdata, htake])
    (by
      show 0 + (data.take len.toNat).length = (len.setWidth 16).toNat
      rw [htake, toNat_setWidth_byte, Nat.zero_add])
    hcont hds
    (by
      intro hne
      have := List.length_pos_iff.2 hne
      show 30 + _ < _
      omega)
  have hrxpos : ((s.begun cap len).elsewhere 2 false).rxpos.toNat = 2 := rfl
  have hcursor : BitVec.ofNat 6 (2 + len.toNat - 31 * ds.length) = s.cursorAfter len (d :: ds) := by
    rw [State.cursorAfter, min_eq_right hpos, List.length_cons]
    exact congrArg (BitVec.ofNat 6) (by omega)
  have hfailed : (if ds = [] then ((s.begun cap len).elsewhere 2 false).readFailed else false) = false := ite_self false
  rw [Progress.readAll_elsewhere, State.begun_readAll htake, hrxpos, htake, hcursor, hfailed] at hloop
  rw [State.parameterRead, if_neg (List.cons_ne_nil d ds), State.stepsBefore, if_neg (Nat.not_lt.2 hpos)]
  exact hbegin.trans hloop

/-- P1 and the loop P2, wherever the length byte stands. -/
theorem parameter_comes (h : s.ParameterAt len data ds) :
    Comes ((s.goTo op (.p1 cap) back).under (messageSchedule s.stepsBefore ds))
      ((((ds.foldl State.afterWait s).withProgress (s.parameterRead cap len data ds)).goTo op .p2 back).under []) := by
  by_cases hpos : s.rxpos.toNat < 32
  · exact parameter_in_chunk_comes h hpos
  · cases ds with
    | nil =>
      have hbytes := h.bytes
      rw [List.drop_of_length_le (by simpa using hpos)] at hbytes
      cases hbytes
    | cons d ds => exact parameter_at_boundary_comes h (Nat.not_lt.1 hpos)

theorem noPause_of_messageSchedule {n : Nat} (he : s.env = messageSchedule n ds) : s.noPause = true := by
  rw [State.noPause, he]
  clear he
  induction ds generalizing n with
  | nil => rfl
  | cons d ds ih =>
    rw [messageSchedule, List.all_append, ih, Bool.and_true]
    simp [deliveryAfter, arrival, ticks]

theorem State.foldl_afterWait_under (hh : s.held = []) (he : ds = [] → s.env = []) :
    (ds.foldl State.afterWait s).under [] = ds.foldl State.afterWait s := by
  induction ds generalizing s with
  | nil => exact State.under_self (he rfl) hh
  | cons d ds ih => exact ih (s := s.afterWait d) hh fun _ => rfl

theorem storedCount_setWidth (len : Byte) (cap : Half) :
    storedCount (len.setWidth 16) cap = if len.toNat ≤ cap.toNat then len.setWidth 16 else cap := by
  rw [storedCount, toNat_setWidth_byte]

/-- RDP reads the parameter. -/
theorem exec_rdp_reads (h : s.ParameterAt len data ds) (hs : s.fg = .idle) (hh : s.held = [])
    (he : s.env = messageSchedule s.stepsBefore ds) :
    exec (.rdp cap) s = .next (((ds.foldl State.afterWait s).withProgress (s.parameterRead cap len data ds)).finished
      (if len.toNat ≤ cap.toNat then len.setWidth 16 else cap)) := by
  have hnone : ds = [] → s.env = [] := by rintro rfl; exact he
  have hread := parameter_comes (op := .rdp cap) (back := [.p3]) (cap := cap) h
  have hend := rdp_ends_quietly (s := ds.foldl State.afterWait s) (q := s.parameterRead cap len data ds)
    (op := .rdp cap) (Nat.lt_irrefl _) [] (.nil _)
  rw [State.under_self (s := s.goTo (.rdp cap) (.p1 cap) [.p3]) he hh] at hread
  rw [← storedCount_setWidth, ← State.foldl_afterWait_under hh hnone]
  exact exec_of_comes rfl hs (noPause_of_messageSchedule he) (hread.trans hend) rfl

/-- RDS reads the parameter and stores its terminator. -/
theorem exec_rds_reads (h : s.ParameterAt len data ds) (hs : s.fg = .idle) (hh : s.held = [])
    (he : s.env = messageSchedule s.stepsBefore ds) :
    exec (.rds cap) s = .next (((ds.foldl State.afterWait s).withProgress { s.parameterRead cap len data ds with
        out := (s.parameterOut cap len (data.take len.toNat)).write (storedCount (len.setWidth 16) cap).toNat 0 }).finished
      (if len.toNat ≤ cap.toNat then len.setWidth 16 else cap)) := by
  have hnone : ds = [] → s.env = [] := by rintro rfl; exact he
  have hread := parameter_comes (op := .rds cap) (back := [.t2]) (cap := cap) h
  have hend := rds_ends_quietly (s := ds.foldl State.afterWait s) (q := s.parameterRead cap len data ds)
    (op := .rds cap) (Nat.lt_irrefl _) [] (.nil _)
  rw [State.under_self (s := s.goTo (.rds cap) (.p1 cap) [.t2]) he hh] at hread
  rw [← storedCount_setWidth, ← State.foldl_afterWait_under hh hnone]
  exact exec_of_comes rfl hs (noPause_of_messageSchedule he) (hread.trans hend) rfl

end Parameter

/-! ## Every byte of OUT -/

theorem storedCount_toNat (len : Byte) (cap : Half) :
    (storedCount (len.setWidth 16) cap).toNat = min len.toNat cap.toNat := by
  rw [storedCount_setWidth]
  split
  · next h => rw [toNat_setWidth_byte, min_eq_left h]
  · next h => rw [min_eq_right (Nat.le_of_not_le h)]

/-- The data bytes below both L and CAP, the byte of before elsewhere. -/
theorem State.parameterOut_take_read {s : State} {cap : Half} {len : Byte} {data : List Byte}
    (h : len.toNat ≤ data.length) (k : Nat) :
    Memory.read (s.parameterOut cap len (data.take len.toNat)) k =
      if k < len.toNat ∧ k < cap.toNat then data[k]? else Memory.read s.out k := by
  have hlen : (data.take len.toNat).length = len.toNat := by rw [List.length_take, min_eq_left h]
  have hbound := len.isLt
  rw [State.parameterOut_read (by omega), hlen]
  by_cases hk : k < len.toNat ∧ k < cap.toNat
  · rw [if_pos hk, if_pos hk, List.getElem?_take_of_lt hk.1]
  · rw [if_neg hk, if_neg hk]

/-- A parameter that the chunk holds whole. -/
theorem State.ParameterAt.in_chunk {s : State} {len : Byte} (hv : s.rxbuf[s.rxpos.toNat]? = some len)
    (hfit : s.rxpos.toNat + 1 + len.toNat ≤ 32) : s.ParameterAt len (s.rxbuf.toList.drop (s.rxpos.toNat + 1)) [] where
  irqOff hne := absurd rfl hne
  bytes := by
    have hpos : s.rxpos.toNat < s.rxbuf.toList.length := by rw [Vector.length_toList]; omega
    obtain ⟨_, hget⟩ := Vector.getElem?_eq_some_iff.1 hv
    rw [List.map_nil, List.flatMap_nil, List.append_nil, List.drop_eq_getElem_cons hpos]
    exact congrArg (· :: _) hget
  continues := nofun
  delivered := nofun
  reached hne := absurd rfl hne
  enough := by
    rw [List.length_drop, Vector.length_toList]
    omega

theorem getElem?_toList_drop (chunk : Chunk) (n k : Nat) : (chunk.toList.drop n)[k]? = chunk[n + k]? := by
  rw [List.getElem?_drop, Vector.getElem?_toList]

theorem State.cursorAfter_in_chunk {s : State} {len : Byte} (hfit : s.rxpos.toNat + 1 + len.toNat ≤ 32) :
    s.cursorAfter len [] = BitVec.ofNat 6 (s.rxpos.toNat + 1 + len.toNat) :=
  congrArg (BitVec.ofNat 6) (by rw [List.length_nil]; omega)

/-- Settles O28: the case of no boundary. -/
theorem rdpStoresAParameterClampedToCap : Obligations.RdpStoresAParameterClampedToCap := by
  intro s cap len h hv hfit
  have hat := State.ParameterAt.in_chunk hv hfit
  refine ⟨s.parameterOut cap len ((s.rxbuf.toList.drop (s.rxpos.toNat + 1)).take len.toNat),
    (exec_rdp_reads hat h.1 h.2.2 h.2.1).trans ?_, fun k => ?_⟩
  · rw [State.parameterRead, if_pos rfl, State.cursorAfter_in_chunk hfit]
    rfl
  · rw [State.parameterOut_take_read hat.enough, getElem?_toList_drop]

/-- Settles O32: the case of no boundary. -/
theorem rdsStoresAStringWithItsTerminator : Obligations.RdsStoresAStringWithItsTerminator := by
  intro s cap len h hv hfit
  have hat := State.ParameterAt.in_chunk hv hfit
  refine ⟨(s.parameterOut cap len ((s.rxbuf.toList.drop (s.rxpos.toNat + 1)).take len.toNat)).write
    (storedCount (len.setWidth 16) cap).toNat 0, (exec_rds_reads hat h.1 h.2.2 h.2.1).trans ?_, fun k => ?_⟩
  · rw [State.parameterRead, if_pos rfl, State.cursorAfter_in_chunk hfit]
    rfl
  · rw [Memory.read_write, State.parameterOut_take_read hat.enough, getElem?_toList_drop, storedCount_toNat]
    by_cases hk : k < len.toNat ∧ k < cap.toNat
    · rw [if_pos hk, if_pos hk, if_neg (by omega)]
    · rw [if_neg hk, if_neg hk]

/-! ## A length byte read at the boundary (41 R116, R118, R120) -/

section Boundary

variable {s : State} {i : Instr} {first after : Label} {back : List Label} {d : Delivery}

/-- An operation whose first step calls RDB. -/
theorem call_quietly (hcall : ∀ u : State, u.atomic i 0 first back = .next (u.goTo i .b1 (after :: back))) :
    Quietly 1 (s.goTo i first back) (s.goTo i .b1 (after :: back)) :=
  .step rfl fun _ => hcall _

theorem noPause_of_deliveryAfter {n : Nat} (he : s.env = deliveryAfter n d) : s.noPause = true := by
  simp [State.noPause, he, deliveryAfter, arrival, ticks]

/-- The call, and RDB up to its B9, the chunk tagged. -/
theorem call_accepts_comes (hcall : ∀ u : State, u.atomic i 0 first back = .next (u.goTo i .b1 (after :: back)))
    (hirq : s.irqOff = false) (hpos : 32 ≤ s.rxpos.toNat) (hc : s.rxbuf[0] = s.cfg.indContinues) (hd : d.inTime s.cfg)
    (ht : tagged s.cfg d.chunk) :
    Comes ((s.goTo i first back).under (deliveryAfter 1 d))
      (((s.afterWait d).acceptChunk.goTo i .b9 (after :: back)).under []) := by
  have hfirst := call_quietly (s := s) hcall _ (emptyFor_replicate_append 1 (arrival d.ms d.chunk d.ref))
  have hcopied := rdb_copies_comes (op := i) (back := after :: back) hirq hpos hc hd (.nil d.lag)
  have hvalid : Quietly 1 ((s.afterWait d).goTo i .b8v (after :: back)) ((s.afterWait d).goTo i .b8r (after :: back)) :=
    .step rfl fun _ => congrArg Host.Outcome.next (if_pos (isIndicator_of_tagged ht))
  have haccept : Quietly 1 ((s.afterWait d).goTo i .b8r (after :: back))
      ((s.afterWait d).acceptChunk.goTo i .b9 (after :: back)) := .step rfl fun _ => rfl
  rw [List.append_nil, List.drop_nil] at hcopied
  exact (hfirst.trans hcopied).trans ((hvalid.trans haccept) [] (.nil 2))

/-- The operation ends as it would with the chunk just accepted. -/
theorem exec_at_boundary_tagged (hstart : startOf i = some (first, back))
    (hcall : ∀ u : State, u.atomic i 0 first back = .next (u.goTo i .b1 (after :: back))) (hs : s.fg = .idle)
    (hh : s.held = []) (hirq : s.irqOff = false) (hpos : 32 ≤ s.rxpos.toNat) (hc : s.rxbuf[0] = s.cfg.indContinues)
    (he : s.env = deliveryAfter 1 d) (hd : d.inTime s.cfg) (ht : tagged s.cfg d.chunk) :
    exec i s = exec i { s.afterWait d with rxpos := 1, readFailed := false } := by
  have hleft := call_accepts_comes hcall hirq hpos hc hd ht
  rw [State.under_self (s := s.goTo i first back) he hh] at hleft
  have hb9 : Quietly 1 ((s.afterWait d).acceptChunk.goTo i .b1 (after :: back))
      ((s.afterWait d).acceptChunk.goTo i .b9 (after :: back)) :=
    .step rfl fun _ => congrArg Host.Outcome.next (if_pos (by decide : 1 < 32))
  have hright := ((call_quietly (s := (s.afterWait d).acceptChunk) hcall).trans hb9) [] (.nil 2)
  rw [State.under_self (s := (s.afterWait d).acceptChunk.goTo i first back) (env := []) rfl hh] at hright
  exact exec_congr_of_comes hstart hs hs (noPause_of_deliveryAfter he) rfl hleft hright rfl

theorem exec_at_boundary_untagged (hstart : startOf i = some (first, back))
    (hcall : ∀ u : State, u.atomic i 0 first back = .next (u.goTo i .b1 (after :: back))) (hs : s.fg = .idle)
    (hh : s.held = []) (hirq : s.irqOff = false) (hpos : 32 ≤ s.rxpos.toNat) (hc : s.rxbuf[0] = s.cfg.indContinues)
    (he : s.env = deliveryAfter 1 d) (hd : d.inTime s.cfg) (ht : ¬ tagged s.cfg d.chunk) :
    exec i s = .next (({ s.afterWait d with readFailed := true } : State).failed .badIndicator) := by
  have hfirst := call_quietly (s := s) hcall _ (emptyFor_replicate_append 1 (arrival d.ms d.chunk d.ref))
  have hrest := rdb_copies_untagged_comes (op := i) (back := after :: back) hirq hpos hc hd ht
  have hall : Comes ((s.goTo i first back).under (deliveryAfter 1 d))
      (((s.afterWait d).failRead .badIndicator).under []) := hfirst.trans hrest
  rw [State.under_self (s := s.goTo i first back) he hh,
    State.under_self (s := (s.afterWait d).failRead .badIndicator) (env := []) rfl hh] at hall
  exact exec_of_comes hstart hs (noPause_of_deliveryAfter he) hall rfl

end Boundary

/-- Settles O29: the loop goes through the chunks one after another; and a length byte in a new chunk is read as from a
chunk just accepted. -/
theorem rdpCrossesAChunkBoundary : Obligations.RdpCrossesAChunkBoundary := by
  refine ⟨?_, ?_⟩
  · intro s cap len data ds hs hh hirq hbytes hc hcont hd hreach hlen he
    have hat : s.ParameterAt len data ds := by
      refine ⟨fun _ => hirq, hbytes, ?_, hd, hreach, hlen⟩
      cases ds with
      | nil => nofun
      | cons d ds => exact List.forall_mem_cons.2 ⟨hc (List.cons_ne_nil d ds), hcont⟩
    refine ⟨_, _, exec_rdp_reads hat hs hh he, exec_rds_reads hat hs hh he,
      fun k => State.parameterOut_take_read hlen k, fun k => ?_⟩
    rw [Memory.read_write, storedCount_toNat]
    rfl
  · rintro s i d hs hh hirq hpos hc he hd (rfl | ⟨cap, rfl⟩ | ⟨cap, rfl⟩)
    · exact ⟨exec_at_boundary_tagged rfl (fun _ => rfl) hs hh hirq hpos hc he hd,
        exec_at_boundary_untagged rfl (fun _ => rfl) hs hh hirq hpos hc he hd⟩
    · exact ⟨exec_at_boundary_tagged rfl (fun _ => rfl) hs hh hirq hpos hc he hd,
        exec_at_boundary_untagged rfl (fun _ => rfl) hs hh hirq hpos hc he hd⟩
    · exact ⟨exec_at_boundary_tagged rfl (fun _ => rfl) hs hh hirq hpos hc he hd,
        exec_at_boundary_untagged rfl (fun _ => rfl) hs hh hirq hpos hc he hd⟩

end Sys2Proof.Machine
end

section
/-! RDP, RDP16 and RDS where RDB fails (spec 41 R122), and RDP16 (41 R118). -/

namespace Sys2Proof.Machine

open Sys2Proof

/-! ## An operation that comes to an RDB at the boundary -/

section Breaks

variable {s u : State} {i : Instr} {first : Label} {back more : List Label} {n : Nat}

/-- The chunk has no continuation. -/
theorem exec_breaks_closed (hstart : startOf i = some (first, back)) (h : s.alone)
    (hq : Quietly n (s.goTo i first back) (u.goTo i .b1 more)) (he : u.env = []) (hh : u.held = [])
    (hc : u.readClosed) : exec i s = .next (u.failed .noContinuation) :=
  exec_alone hstart h
    ((hq.comes h.2.1 h.2.2 he hh).trans (rdb_closed_leads (s := u.goTo i .b1 more) he hh rfl hc).comes) rfl

/-- The continuation does not come. -/
theorem exec_breaks_silent (hstart : startOf i = some (first, back)) (h : s.alone)
    (hq : Quietly n (s.goTo i first back) (u.goTo i .b1 more)) (he : u.env = []) (hh : u.held = [])
    (hpos : 32 ≤ u.rxpos.toNat) (hc : u.rxbuf[0] = u.cfg.indContinues) :
    exec i s = .next (u.afterTimeout.failed .rxTimeout) :=
  exec_alone hstart h
    ((hq.comes h.2.1 h.2.2 he hh).trans (rdb_timeout_comes (s := u.goTo i .b1 more) he hh rfl hpos hc)) rfl

/-- What the operation does up to that RDB leaves the delivery to come. -/
theorem quietly_before_delivery {d : Delivery} (hh : s.held = [])
    (hq : Quietly n (s.goTo i first back) (u.goTo i .b1 more)) (he : s.env = deliveryAfter n d) :
    Comes (s.goTo i first back) ((u.goTo i .b1 more).under (arrival d.ms d.chunk d.ref)) := by
  have hcomes := hq _ (emptyFor_replicate_append n (arrival d.ms d.chunk d.ref))
  rw [List.drop_left' List.length_replicate] at hcomes
  rw [← State.under_self (s := s.goTo i first back) he hh]
  exact hcomes

/-- The chunk that comes is not tagged. -/
theorem exec_breaks_untagged {d : Delivery} (hstart : startOf i = some (first, back)) (hs : s.fg = .idle)
    (hh : s.held = []) (hq : Quietly n (s.goTo i first back) (u.goTo i .b1 more)) (he : s.env = deliveryAfter n d)
    (huh : u.held = []) (hirq : u.irqOff = false) (hpos : 32 ≤ u.rxpos.toNat) (hc : u.rxbuf[0] = u.cfg.indContinues)
    (hd : d.inTime u.cfg) (ht : ¬ tagged u.cfg d.chunk) :
    exec i s = .next (({ u.afterWait d with readFailed := true } : State).failed .badIndicator) := by
  have hrest := rdb_copies_untagged_comes (op := i) (back := more) hirq hpos hc hd ht
  rw [State.under_self (s := (u.afterWait d).failRead .badIndicator) (env := []) rfl huh] at hrest
  exact exec_of_comes hstart hs (noPause_of_deliveryAfter he) ((quietly_before_delivery hh hq he).trans hrest) rfl

end Breaks

/-! ## RDP and RDS in the middle of a parameter (41 R122) -/

section Parameter

variable {s : State} {cap : Half} {len : Byte}

/-- The rest of the chunk has been read, and the parameter goes beyond it. -/
def State.brokenRead (s : State) (cap : Half) (len : Byte) : Progress where
  l := len.setWidth 16
  i := BitVec.ofNat 16 (31 - s.rxpos.toNat)
  cap := cap
  out := s.parameterOut cap len (s.rxbuf.toList.drop (s.rxpos.toNat + 1))
  rxpos := 32
  readFailed := s.readFailed

theorem State.begun_readAll_rest (hpos : s.rxpos.toNat < 32) :
    ((s.begun cap len).elsewhere (s.rxpos + 1) s.readFailed).readAll (s.rxbuf.toList.drop (s.rxpos.toNat + 1)) =
      s.brokenRead cap len := by
  generalize has : s.rxbuf.toList.drop (s.rxpos.toNat + 1) = as
  have hlen : as.length = 31 - s.rxpos.toNat := by simp [← has]
  generalize hq : ((s.begun cap len).elsewhere (s.rxpos + 1) s.readFailed).readAll as = q
  have hl : q.l = len.setWidth 16 := by rw [← hq, Progress.readAll_l]; rfl
  have hi : q.i = BitVec.ofNat 16 (31 - s.rxpos.toNat) := by
    rw [← hq, Progress.readAll_i, hlen]
    exact BitVec.zero_add _
  have hcap : q.cap = cap := by rw [← hq, Progress.readAll_cap]; rfl
  have hout : q.out = s.parameterOut cap len as := by
    rw [← hq]
    have hsame := Progress.readAll_elsewhere as (s.begun cap len) (s.rxpos + 1) 0 s.readFailed false
    show (Progress.elsewhere _ 0 false).out = _
    rw [hsame]
    rfl
  have hrxpos : q.rxpos = 32 := by
    rw [← hq, Progress.readAll_rxpos, hlen]
    show s.rxpos + 1 + _ = _
    bv_omega
  have hfailed : q.readFailed = s.readFailed := by rw [← hq, Progress.readAll_readFailed]; rfl
  rw [State.brokenRead, has, ← hl, ← hi, ← hrxpos, ← hfailed, ← hout, ← hcap]

/-- The reader comes to the boundary in the middle of the parameter. -/
theorem parameter_breaks_quietly {op : Instr} {back : List Label} (hv : s.rxbuf[s.rxpos.toNat]? = some len)
    (hbeyond : 32 < s.rxpos.toNat + 1 + len.toNat) :
    Quietly (5 + 4 * (31 - s.rxpos.toNat)) (s.goTo op (.p1 cap) back)
      ((s.withProgress (s.brokenRead cap len)).goTo op .b1 (.p2r :: back)) := by
  have hpos : s.rxpos.toNat < 32 := (Vector.getElem?_eq_some_iff.1 hv).1
  have hnext : (s.rxpos + 1).toNat = s.rxpos.toNat + 1 := by bv_omega
  have hlen : (s.rxbuf.toList.drop (s.rxpos.toNat + 1)).length = 31 - s.rxpos.toNat := by simp
  have hbytes := len.isLt
  have hloop := p2_reads_all_quietly (s := s) (op := op) (back := back) (s.rxbuf.toList.drop (s.rxpos.toNat + 1))
    (q := (s.begun cap len).elsewhere (s.rxpos + 1) s.readFailed)
    (by
      show List.take _ (List.drop (s.rxpos + 1).toNat _) = _
      rw [hnext, List.take_length])
    (show (s.rxpos + 1).toNat + _ ≤ 32 by omega)
    (show 0 + _ ≤ (len.setWidth 16).toNat by rw [toNat_setWidth_byte]; omega)
  rw [State.begun_readAll_rest hpos, hlen] at hloop
  have hcall := p2_calls_quietly (s := s) (op := op) (back := back) (q := s.brokenRead cap len)
    (show (BitVec.ofNat 16 (31 - s.rxpos.toNat)).toNat < (len.setWidth 16).toNat by
      rw [toNat_setWidth_byte, BitVec.toNat_ofNat, Nat.mod_eq_of_lt (by omega)]
      omega)
  have hall := ((p1_quietly hv).trans hloop).trans hcall
  rwa [show 4 + 4 * (31 - s.rxpos.toNat) + 1 = 5 + 4 * (31 - s.rxpos.toNat) by omega] at hall

/-- What was stored before the failure stays. -/
theorem State.brokenRead_out_read (k : Nat) :
    Memory.read (s.brokenRead cap len).out k =
      if k < 31 - s.rxpos.toNat ∧ k < cap.toNat then s.rxbuf[s.rxpos.toNat + 1 + k]? else Memory.read s.out k := by
  have hlen : (s.rxbuf.toList.drop (s.rxpos.toNat + 1)).length = 31 - s.rxpos.toNat := by simp
  rw [State.brokenRead, State.parameterOut_read (by omega), hlen, getElem?_toList_drop]

end Parameter

/-- The first step of these operations calls RDB, which fails for them as it does by itself. -/
theorem exec_calls_at_boundary {s : State} {i : Instr} {first after : Label} {back : List Label}
    (hstart : startOf i = some (first, back))
    (hcall : ∀ u : State, u.atomic i 0 first back = .next (u.goTo i .b1 (after :: back))) (h : s.alone)
    (hpos : 32 ≤ s.rxpos.toNat) : exec i s = exec .rdb s := by
  by_cases hc : s.rxbuf[0] = s.cfg.indContinues
  · rw [exec_breaks_silent hstart h (call_quietly hcall) h.2.1 h.2.2 hpos hc,
      exec_breaks_silent rfl h (.refl (s.goTo .rdb .b1 [])) h.2.1 h.2.2 hpos hc]
  · rw [exec_breaks_closed hstart h (call_quietly hcall) h.2.1 h.2.2 ⟨hpos, hc⟩, exec_rdb_closed h ⟨hpos, hc⟩]

/-- Settles O30: both readers come to the RDB that fails through the rest of the chunk. -/
theorem readFailureEndsTheParameterReader : Obligations.ReadFailureEndsTheParameterReader := by
  refine ⟨fun s cap len h hv hbeyond => ?_, fun s cap len d hs hh hirq hv hc hbeyond he hd ht => ?_, fun s cap h hpos => ?_⟩
  · have hrdp := parameter_breaks_quietly (op := .rdp cap) (back := [.p3]) (cap := cap) hv hbeyond
    have hrds := parameter_breaks_quietly (op := .rds cap) (back := [.t2]) (cap := cap) hv hbeyond
    refine ⟨(s.brokenRead cap len).out, fun hc => ⟨?_, ?_⟩, fun hc => ⟨?_, ?_⟩, State.brokenRead_out_read⟩
    · exact exec_breaks_closed rfl h hrdp h.2.1 h.2.2 ⟨(by decide : 32 ≤ 32), hc⟩
    · exact exec_breaks_closed rfl h hrds h.2.1 h.2.2 ⟨(by decide : 32 ≤ 32), hc⟩
    · exact exec_breaks_silent rfl h hrdp h.2.1 h.2.2 (by decide : 32 ≤ 32) hc
    · exact exec_breaks_silent rfl h hrds h.2.1 h.2.2 (by decide : 32 ≤ 32) hc
  · have hrdp := parameter_breaks_quietly (op := .rdp cap) (back := [.p3]) (cap := cap) hv hbeyond
    have hrds := parameter_breaks_quietly (op := .rds cap) (back := [.t2]) (cap := cap) hv hbeyond
    exact ⟨(s.brokenRead cap len).out,
      exec_breaks_untagged rfl hs hh hrdp he hh hirq (by decide : 32 ≤ 32) hc hd ht,
      exec_breaks_untagged rfl hs hh hrds he hh hirq (by decide : 32 ≤ 32) hc hd ht, State.brokenRead_out_read⟩
  · exact ⟨exec_calls_at_boundary rfl (fun _ => rfl) h hpos, exec_calls_at_boundary rfl (fun _ => rfl) h hpos,
      exec_calls_at_boundary rfl (fun _ => rfl) h hpos⟩

/-! ## RDP16 (41 R118) -/

/-- Both data bytes stored. -/
theorem Memory.read_write_two (m : Memory) (b₀ b₁ : Byte) (k : Nat) :
    Memory.read ((m.write 0 b₀).write 1 b₁) k = if k = 0 then some b₀ else if k = 1 then some b₁ else Memory.read m k := by
  rw [Memory.read_write, Memory.read_write]
  by_cases hk : k = 0
  · rw [if_neg (by omega), if_pos hk, if_pos hk]
  · rw [if_neg hk, if_neg hk]

/-- RDP16 has read and stored so far. -/
def State.readTo (s : State) (rxpos : BitVec 6) (out : Memory) : State := { s with rxpos := rxpos, out := out }

section Rdp16

variable {s : State} {b b₀ b₁ : Byte}

/-- Q1 and the length byte. -/
theorem q1_quietly {len : Byte} (hlen : s.rxbuf[s.rxpos.toNat]? = some len) :
    Quietly 3 (s.goTo .rdp16 .q1 []) ((s.readTo (s.rxpos + 1) s.out).finish .rdp16 (byteResult len) [.q2]) :=
  (call_quietly fun _ => rfl).trans (rdb_in_chunk_quietly hlen)

/-- Q1 to Q3, the length byte being 2. -/
theorem rdp16_begins_quietly (hlen : s.rxbuf[s.rxpos.toNat]? = some 2) :
    Quietly 5 (s.goTo .rdp16 .q1 []) ((s.readTo (s.rxpos + 1) s.out).goTo .rdp16 .b1 [.q3r]) := by
  have hq2 : Quietly 1 ((s.readTo (s.rxpos + 1) s.out).finish .rdp16 (byteResult 2) [.q2])
      ((s.readTo (s.rxpos + 1) s.out).goTo .rdp16 .q3 []) := .step rfl fun _ => rfl
  exact ((q1_quietly hlen).trans hq2).trans (call_quietly fun _ => rfl)

/-- Q3 has its byte; Q4 calls RDB. -/
theorem q3_stores_quietly (b : Byte) :
    Quietly 2 (s.finish .rdp16 (byteResult b) [.q3r]) ((s.storeOut 0 b).goTo .rdp16 .b1 [.q4r]) := by
  have hstore : Quietly 1 (s.finish .rdp16 (byteResult b) [.q3r]) ((s.storeOut 0 b).goTo .rdp16 .q4 []) := by
    refine .step rfl fun _ => congrArg Host.Outcome.next ?_
    rw [stepQ3r, resultByte_byteResult]
    rfl
  exact hstore.trans (call_quietly fun _ => rfl)

/-- Q4 has its byte. -/
theorem q4_stores_quietly (b : Byte) :
    Quietly 1 (s.finish .rdp16 (byteResult b) [.q4r]) ((s.storeOut 1 b).finished 0) := by
  refine .step rfl fun _ => congrArg Host.Outcome.next ?_
  rw [stepQ4r, resultByte_byteResult]
  rfl

theorem q3_reads_quietly (hb : s.rxbuf[s.rxpos.toNat]? = some b) :
    Quietly 4 (s.goTo .rdp16 .b1 [.q3r]) ((s.readTo (s.rxpos + 1) (s.out.write 0 b)).goTo .rdp16 .b1 [.q4r]) :=
  (rdb_in_chunk_quietly hb).trans (q3_stores_quietly b)

theorem q4_reads_quietly (hb : s.rxbuf[s.rxpos.toNat]? = some b) :
    Quietly 3 (s.goTo .rdp16 .b1 [.q4r]) ((s.readTo (s.rxpos + 1) (s.out.write 1 b)).finished 0) :=
  (rdb_in_chunk_quietly hb).trans (q4_stores_quietly b)

/-- The length byte is not 2. -/
theorem exec_rdp16_badLength {len : Byte} (h : s.alone) (hlen : s.rxbuf[s.rxpos.toNat]? = some len) (hne : len ≠ 2) :
    exec .rdp16 s = .next (({ s with rxpos := s.rxpos + 1 } : State).failed .badLength) := by
  have hresult : byteResult len ≠ 2 := fun h2 => hne (by rw [← resultByte_byteResult len, h2]; rfl)
  have hq2 : Comes ((s.readTo (s.rxpos + 1) s.out).finish .rdp16 (byteResult len) [.q2])
      ((s.readTo (s.rxpos + 1) s.out).fail .badLength) :=
    .quiet h.2.1 h.2.2 rfl (congrArg Host.Outcome.next (if_neg hresult))
  exact exec_alone rfl h (((q1_quietly hlen).comes h.2.1 h.2.2 h.2.1 h.2.2).trans hq2) rfl

/-- The parameter is inside the chunk. -/
theorem exec_rdp16_in_chunk (h : s.alone) (hlen : s.rxbuf[s.rxpos.toNat]? = some 2)
    (h₀ : s.rxbuf[s.rxpos.toNat + 1]? = some b₀) (h₁ : s.rxbuf[s.rxpos.toNat + 2]? = some b₁) :
    exec .rdp16 s = .next ((s.readTo (BitVec.ofNat 6 (s.rxpos.toNat + 3)) ((s.out.write 0 b₀).write 1 b₁)).finished 0) := by
  have hpos : s.rxpos.toNat + 2 < 32 := (Vector.getElem?_eq_some_iff.1 h₁).1
  have hnext : (s.rxpos + 1).toNat = s.rxpos.toNat + 1 := by bv_omega
  have hnext' : (s.rxpos + 1 + 1).toNat = s.rxpos.toNat + 2 := by bv_omega
  have hend : s.rxpos + 1 + 1 + 1 = BitVec.ofNat 6 (s.rxpos.toNat + 3) := by bv_omega
  have hq3 := q3_reads_quietly (s := s.readTo (s.rxpos + 1) s.out) (b := b₀) ((congrArg (s.rxbuf[·]?) hnext).trans h₀)
  have hq4 := q4_reads_quietly (s := s.readTo (s.rxpos + 1 + 1) (s.out.write 0 b₀)) (b := b₁)
    ((congrArg (s.rxbuf[·]?) hnext').trans h₁)
  rw [← hend]
  exact exec_alone rfl h ((((rdp16_begins_quietly hlen).trans hq3).trans hq4).comes h.2.1 h.2.2 h.2.1 h.2.2) rfl

/-- What of the first data byte the chunk holds, with the length byte at 30 or 31. -/
def State.storedAtEnd (s : State) : Memory := if s.rxpos.toNat = 30 then s.out.write 0 s.rxbuf[31] else s.out

theorem State.storedAtEnd_read (s : State) (k : Nat) :
    Memory.read s.storedAtEnd k = if k = 0 ∧ s.rxpos.toNat = 30 then s.rxbuf[31]? else Memory.read s.out k := by
  rw [State.storedAtEnd]
  by_cases hpos : s.rxpos.toNat = 30
  · rw [if_pos hpos, Memory.read_write]
    exact if_congr (by simp [hpos]) rfl rfl
  · rw [if_neg hpos, if_neg fun h => hpos h.2]

/-- The label after the RDB that stands at the boundary: that of Q4 or of Q3. -/
def State.labelAtEnd (s : State) : Label := if s.rxpos.toNat = 30 then .q4r else .q3r

/-- RDP16 comes to the boundary. -/
theorem rdp16_breaks_quietly (hlen : s.rxbuf[s.rxpos.toNat]? = some 2) (hpos : 30 ≤ s.rxpos.toNat) :
    Quietly (5 + 4 * (31 - s.rxpos.toNat)) (s.goTo .rdp16 .q1 [])
      ((s.readTo 32 s.storedAtEnd).goTo .rdp16 .b1 [s.labelAtEnd]) := by
  have hlt : s.rxpos.toNat < 32 := (Vector.getElem?_eq_some_iff.1 hlen).1
  have hbegin := rdp16_begins_quietly hlen
  rw [State.storedAtEnd, State.labelAtEnd]
  by_cases h30 : s.rxpos.toNat = 30
  · have hnext : (s.rxpos + 1).toNat = 31 := by bv_omega
    have hend : s.rxpos + 1 + 1 = 32 := by bv_omega
    have hq3 := q3_reads_quietly (s := s.readTo (s.rxpos + 1) s.out) (b := s.rxbuf[31])
      ((congrArg (s.rxbuf[·]?) hnext).trans (Vector.getElem?_eq_getElem (by decide)))
    rw [if_pos h30, if_pos h30, h30, ← hend]
    exact hbegin.trans hq3
  · have hend : s.rxpos + 1 = 32 := by bv_omega
    rw [if_neg h30, if_neg h30, show s.rxpos.toNat = 31 by omega, ← hend]
    exact hbegin

/-- The bytes stored with a continuation. -/
def State.storedAcross (s : State) (chunk : Chunk) : Memory :=
  if s.rxpos.toNat = 30 then (s.out.write 0 s.rxbuf[31]).write 1 chunk[1]
  else (s.out.write 0 chunk[1]).write 1 chunk[2]

theorem State.storedAcross_read (s : State) (chunk : Chunk) (k : Nat) :
    Memory.read (s.storedAcross chunk) k =
      if k = 0 then if s.rxpos.toNat = 30 then s.rxbuf[31]? else some chunk[1]
      else if k = 1 then if s.rxpos.toNat = 30 then some chunk[1] else some chunk[2]
      else Memory.read s.out k := by
  rw [State.storedAcross]
  by_cases hpos : s.rxpos.toNat = 30
  · simp only [if_pos hpos, Memory.read_write_two]
    rfl
  · simp only [if_neg hpos, Memory.read_write_two]

/-- The first payload byte of the continuation has been read. -/
def State.crossed (s : State) (d : Delivery) (out : Memory) : State :=
  { s.afterWait d with rxpos := 2, readFailed := false, out := out }

/-- RDP16 with the first payload byte of the continuation in hand. -/
theorem rdp16_crosses_comes {d : Delivery} (hh : s.held = []) (hirq : s.irqOff = false)
    (hlen : s.rxbuf[s.rxpos.toNat]? = some 2) (hpos : 30 ≤ s.rxpos.toNat) (hc : s.rxbuf[0] = s.cfg.indContinues)
    (he : s.env = deliveryAfter (5 + 4 * (31 - s.rxpos.toNat)) d) (hd : d.inTime s.cfg) (ht : tagged s.cfg d.chunk) :
    Comes (s.goTo .rdp16 .q1 [])
      ((s.crossed d s.storedAtEnd).finish .rdp16 (byteResult d.chunk[1]) [s.labelAtEnd]) := by
  have hcross := rdb_crosses_comes (s := s.readTo 32 s.storedAtEnd) (op := .rdp16) (back := [s.labelAtEnd]) hirq
    (by decide : 32 ≤ 32) hc hd ht (.nil _)
  rw [List.append_nil, List.drop_nil] at hcross
  rw [← State.under_self (s := (s.crossed d s.storedAtEnd).finish .rdp16 (byteResult d.chunk[1]) [s.labelAtEnd])
    (env := []) rfl hh]
  exact (quietly_before_delivery hh (rdp16_breaks_quietly hlen hpos) he).trans hcross

/-- RDP16 across the boundary. -/
theorem exec_rdp16_crosses {d : Delivery} (hs : s.fg = .idle) (hh : s.held = []) (hirq : s.irqOff = false)
    (hlen : s.rxbuf[s.rxpos.toNat]? = some 2) (hpos : 30 ≤ s.rxpos.toNat) (hc : s.rxbuf[0] = s.cfg.indContinues)
    (he : s.env = deliveryAfter (5 + 4 * (31 - s.rxpos.toNat)) d) (hd : d.inTime s.cfg) (ht : tagged s.cfg d.chunk) :
    exec .rdp16 s = .next (({ s.afterWait d with
      rxpos := BitVec.ofNat 6 (s.rxpos.toNat - 28), readFailed := false, out := s.storedAcross d.chunk } :
        State).finished 0) := by
  have hlt : s.rxpos.toNat < 32 := (Vector.getElem?_eq_some_iff.1 hlen).1
  have hread := rdp16_crosses_comes hh hirq hlen hpos hc he hd ht
  rw [State.storedAtEnd, State.labelAtEnd] at hread
  rw [State.storedAcross]
  by_cases h30 : s.rxpos.toNat = 30
  · rw [if_pos h30, if_pos h30] at hread
    rw [if_pos h30, h30]
    have hend := (q4_stores_quietly (s := s.crossed d (s.out.write 0 s.rxbuf[31])) d.chunk[1]).comes rfl hh rfl hh
    exact exec_of_comes rfl hs (noPause_of_deliveryAfter he) (hread.trans hend) rfl
  · rw [if_neg h30, if_neg h30] at hread
    rw [if_neg h30, show s.rxpos.toNat = 31 by omega]
    have hq3 := q3_stores_quietly (s := s.crossed d s.out) d.chunk[1]
    have hq4 := q4_reads_quietly (s := (s.crossed d s.out).storeOut 0 d.chunk[1]) (b := d.chunk[2])
      (Vector.getElem?_eq_getElem (by decide : 2 < 32))
    have hend := (hq3.trans hq4).comes rfl hh rfl hh
    exact exec_of_comes rfl hs (noPause_of_deliveryAfter he) (hread.trans hend) rfl

/-- Settles O31: the parameter inside the chunk, cut by its end, across the boundary, and of another length. -/
theorem rdp16ReadsExactlyTwoBytes : Obligations.Rdp16ReadsExactlyTwoBytes := by
  refine ⟨fun s len h hlen => ⟨?_, ?_, fun hne => exec_rdp16_badLength h hlen hne⟩,
    fun s d hs hh hirq hlen hpos hc he hd => ⟨fun ht => ?_, fun ht => ?_⟩⟩
  · rintro rfl b₀ b₁ h₀ h₁
    exact ⟨_, exec_rdp16_in_chunk h hlen h₀ h₁, Memory.read_write_two s.out b₀ b₁, rfl⟩
  · rintro rfl hpos
    have hbreak := rdp16_breaks_quietly hlen hpos
    refine ⟨s.storedAtEnd, ?_, s.storedAtEnd_read⟩
    by_cases hc : s.rxbuf[0] = s.cfg.indContinues
    · rw [if_pos hc]
      exact exec_breaks_silent rfl h hbreak h.2.1 h.2.2 (by decide : 32 ≤ 32) hc
    · rw [if_neg hc]
      exact exec_breaks_closed rfl h hbreak h.2.1 h.2.2 ⟨(by decide : 32 ≤ 32), hc⟩
  · exact ⟨_, exec_rdp16_crosses hs hh hirq hlen hpos hc he hd ht, s.storedAcross_read d.chunk⟩
  · exact ⟨s.storedAtEnd, exec_breaks_untagged rfl hs hh (rdp16_breaks_quietly hlen hpos) he hh hirq
      (by decide : 32 ≤ 32) hc hd ht, s.storedAtEnd_read⟩

end Rdp16

end Sys2Proof.Machine
end
